-- ==== Sys2Proof/Word.lean ====
section
/-! DEFINITION. Word.lean: the two word types of the machine (00_scope.md rule R9). -/

namespace Sys2Proof

/-- A byte: the width of a register, the ALU and a memory cell (R9). -/
abbrev Byte := BitVec 8

/-- A 16-bit value: an address, the stack pointer, the program counter (R9). -/
abbrev Word16 := BitVec 16

end Sys2Proof
end

