-- ==== Sys2Proof/Fields.lean ====
section
/-! DEFINITION. Fields.lean: what the fields of an opcode byte name (30_encoding.md rules R104 to R107).
Their code values are encoding tables and stand in Decode.lean. -/

namespace Sys2Proof

/-- The seven 8-bit registers (R30); code 110 of R104 names no register. -/
inductive Reg
  | b | c | d | e | h | l | a
  deriving DecidableEq, Repr

/-- What a field `ddd` or `sss` selects: a register, or M, the memory byte at HL (R15, R104). -/
inductive Operand8
  | reg (r : Reg)
  | m
  deriving DecidableEq, Repr

/-- What `rp` selects in LXI, INX, DCX and DAD (R105, first column). -/
inductive Pair
  | bc | de | hl | sp
  deriving DecidableEq, Repr

/-- What `rp` selects in PUSH and POP, PSW apart (R105, second column; R360, R361). -/
inductive StackPair
  | bc | de | hl
  deriving DecidableEq, Repr

/-- What `p` selects in LDAX and STAX (R105, third column). -/
inductive PointerPair
  | bc | de
  deriving DecidableEq, Repr

/-- The eight conditions a field `ccc` selects (R106), by their mnemonic suffixes. -/
inductive Cond
  | nz | z | nc | c | po | pe | p | m
  deriving DecidableEq, Repr

/-- What a field `ooo` selects (R107); the immediate forms have the same codes. -/
inductive AluOp
  | add | adc | sub | sbb | ana | xra | ora | cmp
  deriving DecidableEq, Repr

end Sys2Proof
end

