-- ==== Sys2Proof/Config.lean ====
section
/-! DEFINITION. Config.lean: the step's two parameters (00_scope.md rule R10, 40_dispatch.md rule R140). -/

namespace Sys2Proof

/-- `RESERVED_POLICY`: what the twelve reserved opcode bytes do (R10, R113). -/
inductive ReservedPolicy
  /-- They raise UnimplementedOpcode; the default. -/
  | fault
  /-- They are 1-byte no-ops. -/
  | noOp1
  deriving DecidableEq, Repr

/-- `DAA_MODE`: whether DAA (0x27) executes (R10, R260, R262). -/
inductive DaaMode
  /-- DAA executes by the reference algorithm; the default. -/
  | reference
  /-- The byte 0x27 raises UnimplementedOpcode. -/
  | fault
  deriving DecidableEq, Repr

/-- `cfg` of `step(s, cfg)` (R140). -/
structure Config where
  reservedPolicy : ReservedPolicy
  daaMode        : DaaMode
  deriving DecidableEq, Repr

/-- The defaults of R10. -/
def Config.default : Config := { reservedPolicy := .fault, daaMode := .reference }

end Sys2Proof
end

