-- ==== Sys2Proof/Machine/State.lean ====
section
/-! DEFINITION. Machine/State.lean: the state of the core, the record of 10_state.md rule R48, as plain data. -/

namespace Sys2Proof.Machine

/-- The five condition flags, five discrete bits (R37). -/
structure Flags where
  /-- Zero. -/
  z  : Bool
  /-- Sign. -/
  s  : Bool
  /-- Parity: set for even parity. -/
  p  : Bool
  /-- Carry. -/
  cy : Bool
  /-- Auxiliary-Carry: carry out of bit 3 into bit 4. -/
  ac : Bool
  deriving DecidableEq, Repr

/-- The seven 8-bit registers (R30); the pairs are views of them (R31). -/
structure RegFile where
  a : Byte
  b : Byte
  c : Byte
  d : Byte
  e : Byte
  h : Byte
  l : Byte
  deriving DecidableEq, Repr

/-- The Memory Image (R43) as a list of the bytes that differ from `Memory.unlisted`, addresses rising
(`Memory.wf`, Machine/Ops.lean; log entry 11). Every one of the 65536 addresses reads as some byte. -/
abbrev Memory := List Host.Cell

/-- The run status (R45). -/
inductive RunStatus
  /-- Instructions are being fetched. -/
  | running
  /-- HLT was executed: terminal, not an error. -/
  | halted
  /-- UnimplementedOpcode was raised: terminal, with the offending opcode byte and its address. -/
  | faulted (opcode : Byte) (pc : Word16)
  deriving DecidableEq, Repr

/-- The whole state of the core (R48), and beside it the step's parameters `cfg`, which no step changes (R47, R140;
log entry 6). -/
structure State where
  /-- A, B, C, D, E, H, L (R30). -/
  regs   : RegFile
  /-- The stack pointer (R34). -/
  sp     : Word16
  /-- The program counter (R35): between steps, the address of the next opcode byte. -/
  pc     : Word16
  /-- Z, S, P, CY, AC (R37). -/
  flags  : Flags
  /-- The interrupt-enable flag INTE (R41). -/
  inte   : Bool
  /-- The Memory Image (R43). -/
  mem    : Memory
  /-- The run status (R45). -/
  status : RunStatus
  /-- `RESERVED_POLICY` and `DAA_MODE` (R10). -/
  cfg    : Config
  deriving DecidableEq, Repr

/-- Reasons for which the machine stops outside the spec's own transitions. There is none: every instruction completes
for every state (R423), and UnimplementedOpcode is a transition of the spec to the status Faulted (R146, R426), hence a
next state here (DEDUCED: log entry 7). An empty type is safe: no step can claim such a stop. -/
inductive Fault
  deriving DecidableEq, Repr

/-- Reasons for which an instruction is given no meaning. -/
inductive Refusal
  /-- An instruction of the opcode table without a meaning, by its mnemonic; raised by no arm of `exec`. Safe: the
  machine would stop where the hardware goes on. -/
  | notModelled (mnemonic : String)
  deriving DecidableEq, Repr

/-- What an instruction or a step answers. -/
abbrev Result := Host.Outcome State Fault Refusal

/-- The launch state with nothing loaded (R49, R450): pc at the default of INIT_PC, status Running, the parameters at
their defaults (R10), no byte of memory listed. The spec leaves A to L, SP, the flags and INTE unspecified at launch;
zero is the model's choice (DESIGN CHOICE, unsafe: log entries 1 to 4). `launch` (Machine/Loader.lean) takes them, and
the memory image, as arguments. -/
def State.reset : State where
  regs   := { a := 0, b := 0, c := 0, d := 0, e := 0, h := 0, l := 0 }
  sp     := 0
  pc     := 0
  flags  := { z := false, s := false, p := false, cy := false, ac := false }
  inte   := false
  mem    := []
  status := .running
  cfg    := .default

end Sys2Proof.Machine
end

