-- ==== Sys2Proof/Machine/Flags.lean ====
section
/-! DEFINITION. Machine/Flags.lean: the Flag Unit (41_flag_unit.md) and the packed flag byte (10_state.md rule R40).
Its functions read only their arguments (R170). -/

namespace Sys2Proof.Machine

/-! ## Result flags; the argument may be wider than a byte -/

/-- R171. -/
def zero (v : Nat) : Bool := v % 256 == 0

/-- R172. -/
def sign (v : Nat) : Bool := (v % 256).testBit 7

/-- `popcount(v)` of R12, over the low `width` bits. -/
def popcount (v : Nat) : Nat → Nat
  | 0 => 0
  | width + 1 => popcount v width + (v.testBit width).toNat

/-- R173: set for an even number of set bits. -/
def parity (v : Nat) : Bool := popcount (v % 256) 8 % 2 == 0

/-- R174. -/
def Flags.setZSP (f : Flags) (v : Byte) : Flags :=
  { f with z := zero v.toNat, s := sign v.toNat, p := parity v.toNat }

/-! ## Carries -/

/-- R175: carry out of an 8-bit addition with carry-in. -/
def carry8 (a b : Byte) (c : Bool) : Bool := a.toNat + b.toNat + c.toNat > 0xFF

/-- R175: carry out of the low nibbles, the carry-in counted. -/
def acAdd (a b : Byte) (c : Bool) : Bool := a.toNat % 16 + b.toNat % 16 + c.toNat > 0xF

/-- R176: the borrow of an 8-bit subtraction with borrow-in. -/
def borrow8 (a b : Byte) (c : Bool) : Bool := a.toNat < b.toNat + c.toNat

/-- R177: carry out of a 16-bit addition. -/
def carry16 (x y : Word16) : Bool := x.toNat + y.toNat > 0xFFFF

/-! ## The classes of R181 -/

/-- add: ADD, ADC, ADI, ACI, for operands `a`, `v`, carry-in `c` and result `t`. -/
def Flags.afterAdd (f : Flags) (a v : Byte) (c : Bool) (t : Byte) : Flags :=
  { f.setZSP t with cy := carry8 a v c, ac := acAdd a v c }

/-- subtract and compare: SUB, SBB, SUI, SBI, CMP, CPI; AC is 0 by design (R176, R178). -/
def Flags.afterSub (f : Flags) (a v : Byte) (c : Bool) (t : Byte) : Flags :=
  { f.setZSP t with cy := borrow8 a v c, ac := false }

/-- logical: ANA, XRA, ORA, ANI, XRI, ORI (R179). -/
def Flags.afterLogic (f : Flags) (t : Byte) : Flags :=
  { f.setZSP t with cy := false, ac := false }

/-- increment: INR on the old value `v`; CY is kept (R180). -/
def Flags.afterIncrement (f : Flags) (v t : Byte) : Flags :=
  { f.setZSP t with ac := acAdd v 1 false }

/-- decrement: DCR; AC is 0, CY is kept (R180). -/
def Flags.afterDecrement (f : Flags) (t : Byte) : Flags :=
  { f.setZSP t with ac := false }

/-- double-add, rotates, STC and CMC write CY alone. -/
def Flags.withCarry (f : Flags) (cy : Bool) : Flags := { f with cy := cy }

/-! ## Conditions -/

/-- `cond(ccc)` (R106, R182). -/
def Flags.cond (f : Flags) : Cond → Bool
  | .nz => !f.z
  | .z => f.z
  | .nc => !f.cy
  | .c => f.cy
  | .po => !f.p
  | .pe => f.p
  | .p => !f.s
  | .m => f.s

/-! ## The packed flag byte (R40) -/

/-- `packFlags`: bit 0 Z, bit 1 S, bit 2 P, bit 3 CY, bit 4 AC, bits 7:5 zero. -/
def Flags.pack (f : Flags) : Byte :=
  BitVec.ofNat 8 (f.z.toNat + 2 * f.s.toNat + 4 * f.p.toNat + 8 * f.cy.toNat + 16 * f.ac.toNat)

/-- `unpackFlags`: bits 7:5 are ignored. -/
def Flags.unpack (b : Byte) : Flags :=
  { z := b.getLsbD 0, s := b.getLsbD 1, p := b.getLsbD 2, cy := b.getLsbD 3, ac := b.getLsbD 4 }

end Sys2Proof.Machine
end

