-- ==== Sys2Proof/Syntax.lean ====
section
/-! DEFINITION. Syntax.lean: the instructions, one constructor per row of spec/opcode_table.json, the formats with
operand bytes first and each format in the order of the opcode byte (30_encoding.md rules R101, R111). A constructor
carries the operand its format gives it (R101): nothing (F1), a byte d8 or port (F2), a 16-bit value d16 or a16 (F3). -/

namespace Sys2Proof

/-- The 244 instructions and the twelve reserved bytes (R111, R113), as decoded. -/
inductive Instr
  -- format F3: opcode, low byte, high byte
  | lxiB (d16 : Word16)
  | lxiD (d16 : Word16)
  | lxiH (d16 : Word16)
  | shld (a16 : Word16)
  | lhld (a16 : Word16)
  | lxiSP (d16 : Word16)
  | sta (a16 : Word16)
  | lda (a16 : Word16)
  | jnz (a16 : Word16)
  | jmp (a16 : Word16)
  | cnz (a16 : Word16)
  | jz (a16 : Word16)
  | cz (a16 : Word16)
  | call (a16 : Word16)
  | jnc (a16 : Word16)
  | cnc (a16 : Word16)
  | jc (a16 : Word16)
  | cc (a16 : Word16)
  | jpo (a16 : Word16)
  | cpo (a16 : Word16)
  | jpe (a16 : Word16)
  | cpe (a16 : Word16)
  | jp (a16 : Word16)
  | cp (a16 : Word16)
  | jm (a16 : Word16)
  | cm (a16 : Word16)
  -- format F2: opcode, data byte or port number
  | mviB (d8 : Byte)
  | mviC (d8 : Byte)
  | mviD (d8 : Byte)
  | mviE (d8 : Byte)
  | mviH (d8 : Byte)
  | mviL (d8 : Byte)
  | mviM (d8 : Byte)
  | mviA (d8 : Byte)
  | adi (d8 : Byte)
  | aci (d8 : Byte)
  | outPort (port : Byte)
  | sui (d8 : Byte)
  | inPort (port : Byte)
  | sbi (d8 : Byte)
  | ani (d8 : Byte)
  | xri (d8 : Byte)
  | ori (d8 : Byte)
  | cpi (d8 : Byte)
  -- format F1: the opcode byte alone
  | nop | staxB | inxB | inrB | dcrB | rlc
  | reserved08 | dadB | ldaxB | dcxB | inrC | dcrC | rrc
  | reserved10 | staxD | inxD | inrD | dcrD | ral
  | reserved18 | dadD | ldaxD | dcxD | inrE | dcrE | rar
  | reserved20 | inxH | inrH | dcrH | daa
  | reserved28 | dadH | dcxH | inrL | dcrL | cma
  | reserved30 | inxSP | inrM | dcrM | stc
  | reserved38 | dadSP | dcxSP | inrA | dcrA | cmc
  | movBB | movBC | movBD | movBE | movBH | movBL | movBM | movBA
  | movCB | movCC | movCD | movCE | movCH | movCL | movCM | movCA
  | movDB | movDC | movDD | movDE | movDH | movDL | movDM | movDA
  | movEB | movEC | movED | movEE | movEH | movEL | movEM | movEA
  | movHB | movHC | movHD | movHE | movHH | movHL | movHM | movHA
  | movLB | movLC | movLD | movLE | movLH | movLL | movLM | movLA
  | movMB | movMC | movMD | movME | movMH | movML | hlt | movMA
  | movAB | movAC | movAD | movAE | movAH | movAL | movAM | movAA
  | addB | addC | addD | addE | addH | addL | addM | addA
  | adcB | adcC | adcD | adcE | adcH | adcL | adcM | adcA
  | subB | subC | subD | subE | subH | subL | subM | subA
  | sbbB | sbbC | sbbD | sbbE | sbbH | sbbL | sbbM | sbbA
  | anaB | anaC | anaD | anaE | anaH | anaL | anaM | anaA
  | xraB | xraC | xraD | xraE | xraH | xraL | xraM | xraA
  | oraB | oraC | oraD | oraE | oraH | oraL | oraM | oraA
  | cmpB | cmpC | cmpD | cmpE | cmpH | cmpL | cmpM | cmpA
  | rnz | popB | pushB | rst0
  | rz | ret | reservedCB | rst1
  | rnc | popD | pushD | rst2
  | rc | reservedD9 | reservedDD | rst3
  | rpo | popH | xthl | pushH | rst4
  | rpe | pchl | xchg | reservedED | rst5
  | rp | popPSW | di | pushPSW | rst6
  | rm | sphl | ei | reservedFD | rst7
  deriving DecidableEq, Repr

end Sys2Proof
end

