-- ==== Sys2Proof/WellFormed.lean ====
section
/-! DEFINITION. WellFormed.lean: which instructions and which program images are well formed. -/

namespace Sys2Proof

/-- The three formats of 30_encoding.md rule R101. -/
inductive Format
  /-- The opcode byte alone. -/
  | f1
  /-- The opcode byte and one operand byte. -/
  | f2
  /-- The opcode byte and a 16-bit operand. -/
  | f3
  deriving DecidableEq, Repr

/-- The length of a format in bytes (R101). -/
def Format.length : Format → Nat
  | .f1 => 1 | .f2 => 2 | .f3 => 3

/-- The format of an instruction (R101, R103). -/
def Instr.format : Instr → Format
  | .lxiB _ | .lxiD _ | .lxiH _ | .shld _ | .lhld _ | .lxiSP _
  | .sta _ | .lda _ | .jnz _ | .jmp _ | .cnz _ | .jz _
  | .cz _ | .call _ | .jnc _ | .cnc _ | .jc _ | .cc _
  | .jpo _ | .cpo _ | .jpe _ | .cpe _ | .jp _ | .cp _
  | .jm _ | .cm _ => .f3
  | .mviB _ | .mviC _ | .mviD _ | .mviE _ | .mviH _ | .mviL _
  | .mviM _ | .mviA _ | .adi _ | .aci _ | .outPort _ | .sui _
  | .inPort _ | .sbi _ | .ani _ | .xri _ | .ori _ | .cpi _ => .f2
  | .nop | .staxB | .inxB | .inrB | .dcrB | .rlc | .reserved08 | .dadB | .ldaxB | .dcxB
  | .inrC | .dcrC | .rrc | .reserved10 | .staxD | .inxD | .inrD | .dcrD | .ral | .reserved18
  | .dadD | .ldaxD | .dcxD | .inrE | .dcrE | .rar | .reserved20 | .inxH | .inrH | .dcrH
  | .daa | .reserved28 | .dadH | .dcxH | .inrL | .dcrL | .cma | .reserved30 | .inxSP | .inrM
  | .dcrM | .stc | .reserved38 | .dadSP | .dcxSP | .inrA | .dcrA | .cmc | .movBB | .movBC
  | .movBD | .movBE | .movBH | .movBL | .movBM | .movBA | .movCB | .movCC | .movCD | .movCE
  | .movCH | .movCL | .movCM | .movCA | .movDB | .movDC | .movDD | .movDE | .movDH | .movDL
  | .movDM | .movDA | .movEB | .movEC | .movED | .movEE | .movEH | .movEL | .movEM | .movEA
  | .movHB | .movHC | .movHD | .movHE | .movHH | .movHL | .movHM | .movHA | .movLB | .movLC
  | .movLD | .movLE | .movLH | .movLL | .movLM | .movLA | .movMB | .movMC | .movMD | .movME
  | .movMH | .movML | .hlt | .movMA | .movAB | .movAC | .movAD | .movAE | .movAH | .movAL
  | .movAM | .movAA | .addB | .addC | .addD | .addE | .addH | .addL | .addM | .addA
  | .adcB | .adcC | .adcD | .adcE | .adcH | .adcL | .adcM | .adcA | .subB | .subC
  | .subD | .subE | .subH | .subL | .subM | .subA | .sbbB | .sbbC | .sbbD | .sbbE
  | .sbbH | .sbbL | .sbbM | .sbbA | .anaB | .anaC | .anaD | .anaE | .anaH | .anaL
  | .anaM | .anaA | .xraB | .xraC | .xraD | .xraE | .xraH | .xraL | .xraM | .xraA
  | .oraB | .oraC | .oraD | .oraE | .oraH | .oraL | .oraM | .oraA | .cmpB | .cmpC
  | .cmpD | .cmpE | .cmpH | .cmpL | .cmpM | .cmpA | .rnz | .popB | .pushB | .rst0
  | .rz | .ret | .reservedCB | .rst1 | .rnc | .popD | .pushD | .rst2 | .rc | .reservedD9
  | .reservedDD | .rst3 | .rpo | .popH | .xthl | .pushH | .rst4 | .rpe | .pchl | .xchg
  | .reservedED | .rst5 | .rp | .popPSW | .di | .pushPSW | .rst6 | .rm | .sphl | .ei
  | .reservedFD | .rst7 => .f1

/-- R100: an instruction is 1, 2 or 3 bytes long. Operands are bit vectors of exactly the width their format gives
them, and register, pair and condition fields are part of the constructor, so every term of `Instr` passes. -/
def Instr.wellFormed (i : Instr) : Bool := [1, 2, 3].contains i.format.length

/-- R454: an image fits when `LOAD_BASE + length(image) <= 65536`; the loader refuses one that does not. -/
def imageFits (loadBase : Word16) (image : List Byte) : Bool := decide (loadBase.toNat + image.length ≤ 65536)

end Sys2Proof
end

