-- ==== Sys2Proof/Decode.lean ====
section
/-! DEFINITION. Decode.lean: from bytes to instructions and back.
The decoder is the opcode map of 30_encoding.md rule R111; the encoder is written from the bit patterns of rule R103
and the field codes of rules R104 to R108, so that the round trip checks one table of the spec against the other. -/

namespace Sys2Proof

/-! ## Bytes and 16-bit values -/

/-- `{h, l}` of R11: the byte `h` above the byte `l`. -/
def pairOf (h l : Byte) : Word16 := h ++ l

/-- `w[15:8]` (R11). -/
def highByte (w : Word16) : Byte := w.extractLsb' 8 8

/-- `w[7:0]` (R11). -/
def lowByte (w : Word16) : Byte := w.extractLsb' 0 8

/-! ## Instruction lengths (R110) -/

/-- The opcode bytes of the 3-byte instructions: LXI, SHLD, LHLD, STA, LDA, JMP, Jcc, CALL, Ccc. -/
def threeByteOpcodes : List Byte :=
  [0x01, 0x11, 0x21, 0x31, 0x22, 0x2A, 0x32, 0x3A, 0xC3, 0xC2, 0xCA, 0xD2, 0xDA, 0xE2, 0xEA, 0xF2, 0xFA,
   0xCD, 0xC4, 0xCC, 0xD4, 0xDC, 0xE4, 0xEC, 0xF4, 0xFC]

/-- The opcode bytes of the 2-byte instructions: MVI, the ALU immediates, OUT, IN. -/
def twoByteOpcodes : List Byte :=
  [0x06, 0x0E, 0x16, 0x1E, 0x26, 0x2E, 0x36, 0x3E, 0xC6, 0xCE, 0xD6, 0xDE, 0xE6, 0xEE, 0xF6, 0xFE, 0xD3, 0xDB]

/-- R110: the length an opcode byte gives its instruction; every other byte, reserved ones included, has length 1. -/
def opcodeLength (op : Byte) : Nat :=
  if op ∈ threeByteOpcodes then 3 else if op ∈ twoByteOpcodes then 2 else 1

/-! ## The opcode map (R111, R112) -/

/-- A descriptor of R112: the instruction of an opcode byte, awaiting the operand its format gives it (R101). -/
inductive Descriptor
  /-- F1: no operand byte. -/
  | bare (i : Instr)
  /-- F2: one operand byte. -/
  | withByte (k : Byte → Instr)
  /-- F3: two operand bytes, the low one first. -/
  | withWord (k : Word16 → Instr)

/-- The length in bytes of a descriptor's format (R101). -/
def Descriptor.length : Descriptor → Nat
  | .bare _ => 1
  | .withByte _ => 2
  | .withWord _ => 3

/-- Row 0x of R111. -/
def opcodeRow0 : List Descriptor :=
  [.bare .nop, .withWord .lxiB, .bare .staxB, .bare .inxB, .bare .inrB, .bare .dcrB, .withByte .mviB, .bare .rlc,
   .bare .reserved08, .bare .dadB, .bare .ldaxB, .bare .dcxB, .bare .inrC, .bare .dcrC, .withByte .mviC, .bare .rrc]

/-- Row 1x of R111. -/
def opcodeRow1 : List Descriptor :=
  [.bare .reserved10, .withWord .lxiD, .bare .staxD, .bare .inxD, .bare .inrD, .bare .dcrD, .withByte .mviD,
   .bare .ral, .bare .reserved18, .bare .dadD, .bare .ldaxD, .bare .dcxD, .bare .inrE, .bare .dcrE, .withByte .mviE,
   .bare .rar]

/-- Row 2x of R111. -/
def opcodeRow2 : List Descriptor :=
  [.bare .reserved20, .withWord .lxiH, .withWord .shld, .bare .inxH, .bare .inrH, .bare .dcrH, .withByte .mviH,
   .bare .daa, .bare .reserved28, .bare .dadH, .withWord .lhld, .bare .dcxH, .bare .inrL, .bare .dcrL,
   .withByte .mviL, .bare .cma]

/-- Row 3x of R111. -/
def opcodeRow3 : List Descriptor :=
  [.bare .reserved30, .withWord .lxiSP, .withWord .sta, .bare .inxSP, .bare .inrM, .bare .dcrM, .withByte .mviM,
   .bare .stc, .bare .reserved38, .bare .dadSP, .withWord .lda, .bare .dcxSP, .bare .inrA, .bare .dcrA,
   .withByte .mviA, .bare .cmc]

/-- Row 4x of R111. -/
def opcodeRow4 : List Descriptor :=
  [.bare .movBB, .bare .movBC, .bare .movBD, .bare .movBE, .bare .movBH, .bare .movBL, .bare .movBM, .bare .movBA,
   .bare .movCB, .bare .movCC, .bare .movCD, .bare .movCE, .bare .movCH, .bare .movCL, .bare .movCM, .bare .movCA]

/-- Row 5x of R111. -/
def opcodeRow5 : List Descriptor :=
  [.bare .movDB, .bare .movDC, .bare .movDD, .bare .movDE, .bare .movDH, .bare .movDL, .bare .movDM, .bare .movDA,
   .bare .movEB, .bare .movEC, .bare .movED, .bare .movEE, .bare .movEH, .bare .movEL, .bare .movEM, .bare .movEA]

/-- Row 6x of R111. -/
def opcodeRow6 : List Descriptor :=
  [.bare .movHB, .bare .movHC, .bare .movHD, .bare .movHE, .bare .movHH, .bare .movHL, .bare .movHM, .bare .movHA,
   .bare .movLB, .bare .movLC, .bare .movLD, .bare .movLE, .bare .movLH, .bare .movLL, .bare .movLM, .bare .movLA]

/-- Row 7x of R111. -/
def opcodeRow7 : List Descriptor :=
  [.bare .movMB, .bare .movMC, .bare .movMD, .bare .movME, .bare .movMH, .bare .movML, .bare .hlt, .bare .movMA,
   .bare .movAB, .bare .movAC, .bare .movAD, .bare .movAE, .bare .movAH, .bare .movAL, .bare .movAM, .bare .movAA]

/-- Row 8x of R111. -/
def opcodeRow8 : List Descriptor :=
  [.bare .addB, .bare .addC, .bare .addD, .bare .addE, .bare .addH, .bare .addL, .bare .addM, .bare .addA,
   .bare .adcB, .bare .adcC, .bare .adcD, .bare .adcE, .bare .adcH, .bare .adcL, .bare .adcM, .bare .adcA]

/-- Row 9x of R111. -/
def opcodeRow9 : List Descriptor :=
  [.bare .subB, .bare .subC, .bare .subD, .bare .subE, .bare .subH, .bare .subL, .bare .subM, .bare .subA,
   .bare .sbbB, .bare .sbbC, .bare .sbbD, .bare .sbbE, .bare .sbbH, .bare .sbbL, .bare .sbbM, .bare .sbbA]

/-- Row Ax of R111. -/
def opcodeRowA : List Descriptor :=
  [.bare .anaB, .bare .anaC, .bare .anaD, .bare .anaE, .bare .anaH, .bare .anaL, .bare .anaM, .bare .anaA,
   .bare .xraB, .bare .xraC, .bare .xraD, .bare .xraE, .bare .xraH, .bare .xraL, .bare .xraM, .bare .xraA]

/-- Row Bx of R111. -/
def opcodeRowB : List Descriptor :=
  [.bare .oraB, .bare .oraC, .bare .oraD, .bare .oraE, .bare .oraH, .bare .oraL, .bare .oraM, .bare .oraA,
   .bare .cmpB, .bare .cmpC, .bare .cmpD, .bare .cmpE, .bare .cmpH, .bare .cmpL, .bare .cmpM, .bare .cmpA]

/-- Row Cx of R111. -/
def opcodeRowC : List Descriptor :=
  [.bare .rnz, .bare .popB, .withWord .jnz, .withWord .jmp, .withWord .cnz, .bare .pushB, .withByte .adi,
   .bare .rst0, .bare .rz, .bare .ret, .withWord .jz, .bare .reservedCB, .withWord .cz, .withWord .call,
   .withByte .aci, .bare .rst1]

/-- Row Dx of R111. -/
def opcodeRowD : List Descriptor :=
  [.bare .rnc, .bare .popD, .withWord .jnc, .withByte .outPort, .withWord .cnc, .bare .pushD, .withByte .sui,
   .bare .rst2, .bare .rc, .bare .reservedD9, .withWord .jc, .withByte .inPort, .withWord .cc, .bare .reservedDD,
   .withByte .sbi, .bare .rst3]

/-- Row Ex of R111. -/
def opcodeRowE : List Descriptor :=
  [.bare .rpo, .bare .popH, .withWord .jpo, .bare .xthl, .withWord .cpo, .bare .pushH, .withByte .ani, .bare .rst4,
   .bare .rpe, .bare .pchl, .withWord .jpe, .bare .xchg, .withWord .cpe, .bare .reservedED, .withByte .xri,
   .bare .rst5]

/-- Row Fx of R111. -/
def opcodeRowF : List Descriptor :=
  [.bare .rp, .bare .popPSW, .withWord .jp, .bare .di, .withWord .cp, .bare .pushPSW, .withByte .ori, .bare .rst6,
   .bare .rm, .bare .sphl, .withWord .jm, .bare .ei, .withWord .cm, .bare .reservedFD, .withByte .cpi, .bare .rst7]

/-- The map of R111: one row per high nibble. -/
def opcodeMap : List (List Descriptor) :=
  [opcodeRow0, opcodeRow1, opcodeRow2, opcodeRow3, opcodeRow4, opcodeRow5, opcodeRow6, opcodeRow7] ++
  [opcodeRow8, opcodeRow9, opcodeRowA, opcodeRowB, opcodeRowC, opcodeRowD, opcodeRowE, opcodeRowF]

/-- `decode : Byte -> Descriptor` of R112: row = high nibble, column = low nibble. The map has 16 rows of 16 entries
(Laws/Decode.lean), so the default entry is never read. -/
def descriptorOf (op : Byte) : Descriptor :=
  (opcodeMap.getD (op.toNat / 16) []).getD (op.toNat % 16) (.bare .nop)

/-! ## Decoding a list of bytes -/

/-- Why a list of bytes is not the start of an instruction. -/
inductive DecodeError
  /-- There is no opcode byte. -/
  | noBytes
  /-- The opcode byte is there and an operand byte its format needs (R101) is missing. -/
  | operandMissing (opcode : Byte)
  deriving DecidableEq, Repr

/-- The instruction a list of bytes begins with and the bytes after it (R101, R109, R116). Every opcode byte has a
descriptor (R112), so only a list that ends too early is rejected. -/
def decode : List Byte → Except DecodeError (Instr × List Byte)
  | [] => .error .noBytes
  | op :: rest =>
    match descriptorOf op with
    | .bare i => .ok (i, rest)
    | .withByte k =>
      match rest with
      | d8 :: rest' => .ok (k d8, rest')
      | [] => .error (.operandMissing op)
    | .withWord k =>
      match rest with
      | lo :: hi :: rest' => .ok (k (pairOf hi lo), rest')
      | _ => .error (.operandMissing op)

/-- The longest instruction has three bytes (R100). -/
def tableBytes (nbits w : Nat) : List Byte :=
  [BitVec.ofNat 8 (w % 2 ^ nbits), BitVec.ofNat 8 (w % 2 ^ nbits / 2 ^ 8), BitVec.ofNat 8 (w % 2 ^ nbits / 2 ^ 16)]

/-- The instruction the decoder reads from a word numbered as spec/opcode_table.json numbers it (bits 7..0 the opcode
byte, 15..8 and 23..16 the operand bytes), the bits from `nbits` on being zero. -/
def decodeTableWord (nbits w : Nat) : Option Instr :=
  match decode (tableBytes nbits w) with
  | .ok (i, _) => some i
  | .error _ => none

/-! ## Field codes (R104 to R108) -/

/-- R104. -/
def Reg.code : Reg → BitVec 3
  | .b => 0b000 | .c => 0b001 | .d => 0b010 | .e => 0b011 | .h => 0b100 | .l => 0b101 | .a => 0b111

/-- R104, with code 110 for M. -/
def Operand8.code : Operand8 → BitVec 3
  | .reg r => r.code
  | .m => 0b110

/-- R105, first column. -/
def Pair.code : Pair → BitVec 2
  | .bc => 0b00 | .de => 0b01 | .hl => 0b10 | .sp => 0b11

/-- R105, second column. -/
def StackPair.code : StackPair → BitVec 2
  | .bc => 0b00 | .de => 0b01 | .hl => 0b10

/-- R105, second column: the code of PSW. -/
def pswCode : BitVec 2 := 0b11

/-- R105, third column: the one-bit `p` of STAX and LDAX in R103. -/
def PointerPair.code : PointerPair → BitVec 1
  | .bc => 0b0 | .de => 0b1

/-- PUSH and POP name BC, DE and HL as R105's first column does. -/
def StackPair.toPair : StackPair → Pair
  | .bc => .bc | .de => .de | .hl => .hl

/-- LDAX and STAX name BC and DE as R105's first column does. -/
def PointerPair.toPair : PointerPair → Pair
  | .bc => .bc | .de => .de

/-- R106. -/
def Cond.code : Cond → BitVec 3
  | .nz => 0b000 | .z => 0b001 | .nc => 0b010 | .c => 0b011 | .po => 0b100 | .pe => 0b101 | .p => 0b110 | .m => 0b111

/-- R107. -/
def AluOp.code : AluOp → BitVec 3
  | .add => 0b000 | .adc => 0b001 | .sub => 0b010 | .sbb => 0b011
  | .ana => 0b100 | .xra => 0b101 | .ora => 0b110 | .cmp => 0b111

/-! ## Opcode bytes by the patterns of R103 -/

def lxiByte (p : Pair) : Byte := 0b00#2 ++ p.code ++ 0b0001#4
def staxByte (p : PointerPair) : Byte := 0b000#3 ++ p.code ++ 0b0010#4
def inxByte (p : Pair) : Byte := 0b00#2 ++ p.code ++ 0b0011#4
def inrByte (o : Operand8) : Byte := 0b00#2 ++ o.code ++ 0b100#3
def dcrByte (o : Operand8) : Byte := 0b00#2 ++ o.code ++ 0b101#3
def mviByte (o : Operand8) : Byte := 0b00#2 ++ o.code ++ 0b110#3
def dadByte (p : Pair) : Byte := 0b00#2 ++ p.code ++ 0b1001#4
def ldaxByte (p : PointerPair) : Byte := 0b000#3 ++ p.code ++ 0b1010#4
def dcxByte (p : Pair) : Byte := 0b00#2 ++ p.code ++ 0b1011#4
/-- `01dddsss`; the pattern with both fields 110 is HLT (R114) and is not written with this function. -/
def movByte (d s : Operand8) : Byte := 0b01#2 ++ d.code ++ s.code
def aluByte (op : AluOp) (o : Operand8) : Byte := 0b10#2 ++ op.code ++ o.code
def returnIfByte (cc : Cond) : Byte := 0b11#2 ++ cc.code ++ 0b000#3
def popByte (pp : BitVec 2) : Byte := 0b11#2 ++ pp ++ 0b0001#4
def jumpIfByte (cc : Cond) : Byte := 0b11#2 ++ cc.code ++ 0b010#3
def callIfByte (cc : Cond) : Byte := 0b11#2 ++ cc.code ++ 0b100#3
def pushByte (pp : BitVec 2) : Byte := 0b11#2 ++ pp ++ 0b0101#4
def aluImmediateByte (op : AluOp) : Byte := 0b11#2 ++ op.code ++ 0b110#3
def rstByte (n : BitVec 3) : Byte := 0b11#2 ++ n ++ 0b111#3

/-- The opcode byte of an instruction, from R103; the reserved bytes are those of R113. -/
def opcodeOf : Instr → Byte
  | .nop => 0b00000000
  | .lxiB _ => lxiByte .bc
  | .staxB => staxByte .bc
  | .inxB => inxByte .bc
  | .inrB => inrByte (.reg .b)
  | .dcrB => dcrByte (.reg .b)
  | .mviB _ => mviByte (.reg .b)
  | .rlc => 0b00000111
  | .reserved08 => 0b00001000
  | .dadB => dadByte .bc
  | .ldaxB => ldaxByte .bc
  | .dcxB => dcxByte .bc
  | .inrC => inrByte (.reg .c)
  | .dcrC => dcrByte (.reg .c)
  | .mviC _ => mviByte (.reg .c)
  | .rrc => 0b00001111
  | .reserved10 => 0b00010000
  | .lxiD _ => lxiByte .de
  | .staxD => staxByte .de
  | .inxD => inxByte .de
  | .inrD => inrByte (.reg .d)
  | .dcrD => dcrByte (.reg .d)
  | .mviD _ => mviByte (.reg .d)
  | .ral => 0b00010111
  | .reserved18 => 0b00011000
  | .dadD => dadByte .de
  | .ldaxD => ldaxByte .de
  | .dcxD => dcxByte .de
  | .inrE => inrByte (.reg .e)
  | .dcrE => dcrByte (.reg .e)
  | .mviE _ => mviByte (.reg .e)
  | .rar => 0b00011111
  | .reserved20 => 0b00100000
  | .lxiH _ => lxiByte .hl
  | .shld _ => 0b00100010
  | .inxH => inxByte .hl
  | .inrH => inrByte (.reg .h)
  | .dcrH => dcrByte (.reg .h)
  | .mviH _ => mviByte (.reg .h)
  | .daa => 0b00100111
  | .reserved28 => 0b00101000
  | .dadH => dadByte .hl
  | .lhld _ => 0b00101010
  | .dcxH => dcxByte .hl
  | .inrL => inrByte (.reg .l)
  | .dcrL => dcrByte (.reg .l)
  | .mviL _ => mviByte (.reg .l)
  | .cma => 0b00101111
  | .reserved30 => 0b00110000
  | .lxiSP _ => lxiByte .sp
  | .sta _ => 0b00110010
  | .inxSP => inxByte .sp
  | .inrM => inrByte .m
  | .dcrM => dcrByte .m
  | .mviM _ => mviByte .m
  | .stc => 0b00110111
  | .reserved38 => 0b00111000
  | .dadSP => dadByte .sp
  | .lda _ => 0b00111010
  | .dcxSP => dcxByte .sp
  | .inrA => inrByte (.reg .a)
  | .dcrA => dcrByte (.reg .a)
  | .mviA _ => mviByte (.reg .a)
  | .cmc => 0b00111111
  | .movBB => movByte (.reg .b) (.reg .b)
  | .movBC => movByte (.reg .b) (.reg .c)
  | .movBD => movByte (.reg .b) (.reg .d)
  | .movBE => movByte (.reg .b) (.reg .e)
  | .movBH => movByte (.reg .b) (.reg .h)
  | .movBL => movByte (.reg .b) (.reg .l)
  | .movBM => movByte (.reg .b) .m
  | .movBA => movByte (.reg .b) (.reg .a)
  | .movCB => movByte (.reg .c) (.reg .b)
  | .movCC => movByte (.reg .c) (.reg .c)
  | .movCD => movByte (.reg .c) (.reg .d)
  | .movCE => movByte (.reg .c) (.reg .e)
  | .movCH => movByte (.reg .c) (.reg .h)
  | .movCL => movByte (.reg .c) (.reg .l)
  | .movCM => movByte (.reg .c) .m
  | .movCA => movByte (.reg .c) (.reg .a)
  | .movDB => movByte (.reg .d) (.reg .b)
  | .movDC => movByte (.reg .d) (.reg .c)
  | .movDD => movByte (.reg .d) (.reg .d)
  | .movDE => movByte (.reg .d) (.reg .e)
  | .movDH => movByte (.reg .d) (.reg .h)
  | .movDL => movByte (.reg .d) (.reg .l)
  | .movDM => movByte (.reg .d) .m
  | .movDA => movByte (.reg .d) (.reg .a)
  | .movEB => movByte (.reg .e) (.reg .b)
  | .movEC => movByte (.reg .e) (.reg .c)
  | .movED => movByte (.reg .e) (.reg .d)
  | .movEE => movByte (.reg .e) (.reg .e)
  | .movEH => movByte (.reg .e) (.reg .h)
  | .movEL => movByte (.reg .e) (.reg .l)
  | .movEM => movByte (.reg .e) .m
  | .movEA => movByte (.reg .e) (.reg .a)
  | .movHB => movByte (.reg .h) (.reg .b)
  | .movHC => movByte (.reg .h) (.reg .c)
  | .movHD => movByte (.reg .h) (.reg .d)
  | .movHE => movByte (.reg .h) (.reg .e)
  | .movHH => movByte (.reg .h) (.reg .h)
  | .movHL => movByte (.reg .h) (.reg .l)
  | .movHM => movByte (.reg .h) .m
  | .movHA => movByte (.reg .h) (.reg .a)
  | .movLB => movByte (.reg .l) (.reg .b)
  | .movLC => movByte (.reg .l) (.reg .c)
  | .movLD => movByte (.reg .l) (.reg .d)
  | .movLE => movByte (.reg .l) (.reg .e)
  | .movLH => movByte (.reg .l) (.reg .h)
  | .movLL => movByte (.reg .l) (.reg .l)
  | .movLM => movByte (.reg .l) .m
  | .movLA => movByte (.reg .l) (.reg .a)
  | .movMB => movByte .m (.reg .b)
  | .movMC => movByte .m (.reg .c)
  | .movMD => movByte .m (.reg .d)
  | .movME => movByte .m (.reg .e)
  | .movMH => movByte .m (.reg .h)
  | .movML => movByte .m (.reg .l)
  | .hlt => 0b01110110
  | .movMA => movByte .m (.reg .a)
  | .movAB => movByte (.reg .a) (.reg .b)
  | .movAC => movByte (.reg .a) (.reg .c)
  | .movAD => movByte (.reg .a) (.reg .d)
  | .movAE => movByte (.reg .a) (.reg .e)
  | .movAH => movByte (.reg .a) (.reg .h)
  | .movAL => movByte (.reg .a) (.reg .l)
  | .movAM => movByte (.reg .a) .m
  | .movAA => movByte (.reg .a) (.reg .a)
  | .addB => aluByte .add (.reg .b)
  | .addC => aluByte .add (.reg .c)
  | .addD => aluByte .add (.reg .d)
  | .addE => aluByte .add (.reg .e)
  | .addH => aluByte .add (.reg .h)
  | .addL => aluByte .add (.reg .l)
  | .addM => aluByte .add .m
  | .addA => aluByte .add (.reg .a)
  | .adcB => aluByte .adc (.reg .b)
  | .adcC => aluByte .adc (.reg .c)
  | .adcD => aluByte .adc (.reg .d)
  | .adcE => aluByte .adc (.reg .e)
  | .adcH => aluByte .adc (.reg .h)
  | .adcL => aluByte .adc (.reg .l)
  | .adcM => aluByte .adc .m
  | .adcA => aluByte .adc (.reg .a)
  | .subB => aluByte .sub (.reg .b)
  | .subC => aluByte .sub (.reg .c)
  | .subD => aluByte .sub (.reg .d)
  | .subE => aluByte .sub (.reg .e)
  | .subH => aluByte .sub (.reg .h)
  | .subL => aluByte .sub (.reg .l)
  | .subM => aluByte .sub .m
  | .subA => aluByte .sub (.reg .a)
  | .sbbB => aluByte .sbb (.reg .b)
  | .sbbC => aluByte .sbb (.reg .c)
  | .sbbD => aluByte .sbb (.reg .d)
  | .sbbE => aluByte .sbb (.reg .e)
  | .sbbH => aluByte .sbb (.reg .h)
  | .sbbL => aluByte .sbb (.reg .l)
  | .sbbM => aluByte .sbb .m
  | .sbbA => aluByte .sbb (.reg .a)
  | .anaB => aluByte .ana (.reg .b)
  | .anaC => aluByte .ana (.reg .c)
  | .anaD => aluByte .ana (.reg .d)
  | .anaE => aluByte .ana (.reg .e)
  | .anaH => aluByte .ana (.reg .h)
  | .anaL => aluByte .ana (.reg .l)
  | .anaM => aluByte .ana .m
  | .anaA => aluByte .ana (.reg .a)
  | .xraB => aluByte .xra (.reg .b)
  | .xraC => aluByte .xra (.reg .c)
  | .xraD => aluByte .xra (.reg .d)
  | .xraE => aluByte .xra (.reg .e)
  | .xraH => aluByte .xra (.reg .h)
  | .xraL => aluByte .xra (.reg .l)
  | .xraM => aluByte .xra .m
  | .xraA => aluByte .xra (.reg .a)
  | .oraB => aluByte .ora (.reg .b)
  | .oraC => aluByte .ora (.reg .c)
  | .oraD => aluByte .ora (.reg .d)
  | .oraE => aluByte .ora (.reg .e)
  | .oraH => aluByte .ora (.reg .h)
  | .oraL => aluByte .ora (.reg .l)
  | .oraM => aluByte .ora .m
  | .oraA => aluByte .ora (.reg .a)
  | .cmpB => aluByte .cmp (.reg .b)
  | .cmpC => aluByte .cmp (.reg .c)
  | .cmpD => aluByte .cmp (.reg .d)
  | .cmpE => aluByte .cmp (.reg .e)
  | .cmpH => aluByte .cmp (.reg .h)
  | .cmpL => aluByte .cmp (.reg .l)
  | .cmpM => aluByte .cmp .m
  | .cmpA => aluByte .cmp (.reg .a)
  | .rnz => returnIfByte .nz
  | .popB => popByte (StackPair.code .bc)
  | .jnz _ => jumpIfByte .nz
  | .jmp _ => 0b11000011
  | .cnz _ => callIfByte .nz
  | .pushB => pushByte (StackPair.code .bc)
  | .adi _ => aluImmediateByte .add
  | .rst0 => rstByte 0b000
  | .rz => returnIfByte .z
  | .ret => 0b11001001
  | .jz _ => jumpIfByte .z
  | .reservedCB => 0b11001011
  | .cz _ => callIfByte .z
  | .call _ => 0b11001101
  | .aci _ => aluImmediateByte .adc
  | .rst1 => rstByte 0b001
  | .rnc => returnIfByte .nc
  | .popD => popByte (StackPair.code .de)
  | .jnc _ => jumpIfByte .nc
  | .outPort _ => 0b11010011
  | .cnc _ => callIfByte .nc
  | .pushD => pushByte (StackPair.code .de)
  | .sui _ => aluImmediateByte .sub
  | .rst2 => rstByte 0b010
  | .rc => returnIfByte .c
  | .reservedD9 => 0b11011001
  | .jc _ => jumpIfByte .c
  | .inPort _ => 0b11011011
  | .cc _ => callIfByte .c
  | .reservedDD => 0b11011101
  | .sbi _ => aluImmediateByte .sbb
  | .rst3 => rstByte 0b011
  | .rpo => returnIfByte .po
  | .popH => popByte (StackPair.code .hl)
  | .jpo _ => jumpIfByte .po
  | .xthl => 0b11100011
  | .cpo _ => callIfByte .po
  | .pushH => pushByte (StackPair.code .hl)
  | .ani _ => aluImmediateByte .ana
  | .rst4 => rstByte 0b100
  | .rpe => returnIfByte .pe
  | .pchl => 0b11101001
  | .jpe _ => jumpIfByte .pe
  | .xchg => 0b11101011
  | .cpe _ => callIfByte .pe
  | .reservedED => 0b11101101
  | .xri _ => aluImmediateByte .xra
  | .rst5 => rstByte 0b101
  | .rp => returnIfByte .p
  | .popPSW => popByte pswCode
  | .jp _ => jumpIfByte .p
  | .di => 0b11110011
  | .cp _ => callIfByte .p
  | .pushPSW => pushByte pswCode
  | .ori _ => aluImmediateByte .ora
  | .rst6 => rstByte 0b110
  | .rm => returnIfByte .m
  | .sphl => 0b11111001
  | .jm _ => jumpIfByte .m
  | .ei => 0b11111011
  | .cm _ => callIfByte .m
  | .reservedFD => 0b11111101
  | .cpi _ => aluImmediateByte .cmp
  | .rst7 => rstByte 0b111

/-- The operand bytes of an instruction in the order they stand in memory: the byte of F2, the low and then the high
byte of F3 (R101, R109). -/
def Instr.operandBytes : Instr → List Byte
  | .lxiB v | .lxiD v | .lxiH v | .shld v | .lhld v | .lxiSP v
  | .sta v | .lda v | .jnz v | .jmp v | .cnz v | .jz v
  | .cz v | .call v | .jnc v | .cnc v | .jc v | .cc v
  | .jpo v | .cpo v | .jpe v | .cpe v | .jp v | .cp v
  | .jm v | .cm v => [lowByte v, highByte v]
  | .mviB v | .mviC v | .mviD v | .mviE v | .mviH v | .mviL v
  | .mviM v | .mviA v | .adi v | .aci v | .outPort v | .sui v
  | .inPort v | .sbi v | .ani v | .xri v | .ori v | .cpi v => [v]
  | .nop | .staxB | .inxB | .inrB | .dcrB | .rlc | .reserved08 | .dadB | .ldaxB | .dcxB
  | .inrC | .dcrC | .rrc | .reserved10 | .staxD | .inxD | .inrD | .dcrD | .ral | .reserved18
  | .dadD | .ldaxD | .dcxD | .inrE | .dcrE | .rar | .reserved20 | .inxH | .inrH | .dcrH
  | .daa | .reserved28 | .dadH | .dcxH | .inrL | .dcrL | .cma | .reserved30 | .inxSP | .inrM
  | .dcrM | .stc | .reserved38 | .dadSP | .dcxSP | .inrA | .dcrA | .cmc | .movBB | .movBC
  | .movBD | .movBE | .movBH | .movBL | .movBM | .movBA | .movCB | .movCC | .movCD | .movCE
  | .movCH | .movCL | .movCM | .movCA | .movDB | .movDC | .movDD | .movDE | .movDH | .movDL
  | .movDM | .movDA | .movEB | .movEC | .movED | .movEE | .movEH | .movEL | .movEM | .movEA
  | .movHB | .movHC | .movHD | .movHE | .movHH | .movHL | .movHM | .movHA | .movLB | .movLC
  | .movLD | .movLE | .movLH | .movLL | .movLM | .movLA | .movMB | .movMC | .movMD | .movME
  | .movMH | .movML | .hlt | .movMA | .movAB | .movAC | .movAD | .movAE | .movAH | .movAL
  | .movAM | .movAA | .addB | .addC | .addD | .addE | .addH | .addL | .addM | .addA
  | .adcB | .adcC | .adcD | .adcE | .adcH | .adcL | .adcM | .adcA | .subB | .subC
  | .subD | .subE | .subH | .subL | .subM | .subA | .sbbB | .sbbC | .sbbD | .sbbE
  | .sbbH | .sbbL | .sbbM | .sbbA | .anaB | .anaC | .anaD | .anaE | .anaH | .anaL
  | .anaM | .anaA | .xraB | .xraC | .xraD | .xraE | .xraH | .xraL | .xraM | .xraA
  | .oraB | .oraC | .oraD | .oraE | .oraH | .oraL | .oraM | .oraA | .cmpB | .cmpC
  | .cmpD | .cmpE | .cmpH | .cmpL | .cmpM | .cmpA | .rnz | .popB | .pushB | .rst0
  | .rz | .ret | .reservedCB | .rst1 | .rnc | .popD | .pushD | .rst2 | .rc | .reservedD9
  | .reservedDD | .rst3 | .rpo | .popH | .xthl | .pushH | .rst4 | .rpe | .pchl | .xchg
  | .reservedED | .rst5 | .rp | .popPSW | .di | .pushPSW | .rst6 | .rm | .sphl | .ei
  | .reservedFD | .rst7 => []

/-- The bytes of an instruction: its opcode byte, then its operand bytes (R101). -/
def encode (i : Instr) : List Byte := opcodeOf i :: i.operandBytes

/-- The length of an instruction in bytes (R110). -/
def Instr.length (i : Instr) : Nat := opcodeLength (opcodeOf i)

/-! ## Instructions by their fields

Each function gives, for the field values of a row of R103, the constructor that stands for them. -/
namespace Instr

/-- MOV r,r' (R200). -/
def mov : Reg → Reg → Instr
  | .b, .b => .movBB
  | .b, .c => .movBC
  | .b, .d => .movBD
  | .b, .e => .movBE
  | .b, .h => .movBH
  | .b, .l => .movBL
  | .b, .a => .movBA
  | .c, .b => .movCB
  | .c, .c => .movCC
  | .c, .d => .movCD
  | .c, .e => .movCE
  | .c, .h => .movCH
  | .c, .l => .movCL
  | .c, .a => .movCA
  | .d, .b => .movDB
  | .d, .c => .movDC
  | .d, .d => .movDD
  | .d, .e => .movDE
  | .d, .h => .movDH
  | .d, .l => .movDL
  | .d, .a => .movDA
  | .e, .b => .movEB
  | .e, .c => .movEC
  | .e, .d => .movED
  | .e, .e => .movEE
  | .e, .h => .movEH
  | .e, .l => .movEL
  | .e, .a => .movEA
  | .h, .b => .movHB
  | .h, .c => .movHC
  | .h, .d => .movHD
  | .h, .e => .movHE
  | .h, .h => .movHH
  | .h, .l => .movHL
  | .h, .a => .movHA
  | .l, .b => .movLB
  | .l, .c => .movLC
  | .l, .d => .movLD
  | .l, .e => .movLE
  | .l, .h => .movLH
  | .l, .l => .movLL
  | .l, .a => .movLA
  | .a, .b => .movAB
  | .a, .c => .movAC
  | .a, .d => .movAD
  | .a, .e => .movAE
  | .a, .h => .movAH
  | .a, .l => .movAL
  | .a, .a => .movAA

/-- MOV r,M (R201). -/
def movRM : Reg → Instr
  | .b => .movBM
  | .c => .movCM
  | .d => .movDM
  | .e => .movEM
  | .h => .movHM
  | .l => .movLM
  | .a => .movAM

/-- MOV M,r (R202). -/
def movMR : Reg → Instr
  | .b => .movMB
  | .c => .movMC
  | .d => .movMD
  | .e => .movME
  | .h => .movMH
  | .l => .movML
  | .a => .movMA

/-- MVI r,d8 and MVI M,d8 (R203, R204). -/
def mvi : Operand8 → Byte → Instr
  | .reg .b, v => .mviB v
  | .reg .c, v => .mviC v
  | .reg .d, v => .mviD v
  | .reg .e, v => .mviE v
  | .reg .h, v => .mviH v
  | .reg .l, v => .mviL v
  | .m, v => .mviM v
  | .reg .a, v => .mviA v

/-- LXI rp,d16 (R205). -/
def lxi : Pair → Word16 → Instr
  | .bc, v => .lxiB v
  | .de, v => .lxiD v
  | .hl, v => .lxiH v
  | .sp, v => .lxiSP v

/-- LDAX rp (R206). -/
def ldax : PointerPair → Instr
  | .bc => .ldaxB
  | .de => .ldaxD

/-- STAX rp (R207). -/
def stax : PointerPair → Instr
  | .bc => .staxB
  | .de => .staxD

/-- ADD r and ADD M (R240, R241). -/
def add : Operand8 → Instr
  | .reg .b => .addB
  | .reg .c => .addC
  | .reg .d => .addD
  | .reg .e => .addE
  | .reg .h => .addH
  | .reg .l => .addL
  | .m => .addM
  | .reg .a => .addA

/-- ADC r and ADC M (R242, R243). -/
def adc : Operand8 → Instr
  | .reg .b => .adcB
  | .reg .c => .adcC
  | .reg .d => .adcD
  | .reg .e => .adcE
  | .reg .h => .adcH
  | .reg .l => .adcL
  | .m => .adcM
  | .reg .a => .adcA

/-- SUB r and SUB M (R244, R245). -/
def sub : Operand8 → Instr
  | .reg .b => .subB
  | .reg .c => .subC
  | .reg .d => .subD
  | .reg .e => .subE
  | .reg .h => .subH
  | .reg .l => .subL
  | .m => .subM
  | .reg .a => .subA

/-- SBB r and SBB M (R246, R247). -/
def sbb : Operand8 → Instr
  | .reg .b => .sbbB
  | .reg .c => .sbbC
  | .reg .d => .sbbD
  | .reg .e => .sbbE
  | .reg .h => .sbbH
  | .reg .l => .sbbL
  | .m => .sbbM
  | .reg .a => .sbbA

/-- INR r and INR M (R252, R253). -/
def inr : Operand8 → Instr
  | .reg .b => .inrB
  | .reg .c => .inrC
  | .reg .d => .inrD
  | .reg .e => .inrE
  | .reg .h => .inrH
  | .reg .l => .inrL
  | .m => .inrM
  | .reg .a => .inrA

/-- DCR r and DCR M (R254, R255). -/
def dcr : Operand8 → Instr
  | .reg .b => .dcrB
  | .reg .c => .dcrC
  | .reg .d => .dcrD
  | .reg .e => .dcrE
  | .reg .h => .dcrH
  | .reg .l => .dcrL
  | .m => .dcrM
  | .reg .a => .dcrA

/-- ANA r and ANA M (R280, R281). -/
def ana : Operand8 → Instr
  | .reg .b => .anaB
  | .reg .c => .anaC
  | .reg .d => .anaD
  | .reg .e => .anaE
  | .reg .h => .anaH
  | .reg .l => .anaL
  | .m => .anaM
  | .reg .a => .anaA

/-- XRA r and XRA M (R282, R283). -/
def xra : Operand8 → Instr
  | .reg .b => .xraB
  | .reg .c => .xraC
  | .reg .d => .xraD
  | .reg .e => .xraE
  | .reg .h => .xraH
  | .reg .l => .xraL
  | .m => .xraM
  | .reg .a => .xraA

/-- ORA r and ORA M (R284, R285). -/
def ora : Operand8 → Instr
  | .reg .b => .oraB
  | .reg .c => .oraC
  | .reg .d => .oraD
  | .reg .e => .oraE
  | .reg .h => .oraH
  | .reg .l => .oraL
  | .m => .oraM
  | .reg .a => .oraA

/-- CMP r and CMP M (R286, R287). -/
def cmp : Operand8 → Instr
  | .reg .b => .cmpB
  | .reg .c => .cmpC
  | .reg .d => .cmpD
  | .reg .e => .cmpE
  | .reg .h => .cmpH
  | .reg .l => .cmpL
  | .m => .cmpM
  | .reg .a => .cmpA

/-- INX rp (R256). -/
def inx : Pair → Instr
  | .bc => .inxB
  | .de => .inxD
  | .hl => .inxH
  | .sp => .inxSP

/-- DCX rp (R257). -/
def dcx : Pair → Instr
  | .bc => .dcxB
  | .de => .dcxD
  | .hl => .dcxH
  | .sp => .dcxSP

/-- DAD rp (R258). -/
def dad : Pair → Instr
  | .bc => .dadB
  | .de => .dadD
  | .hl => .dadH
  | .sp => .dadSP

/-- Jcc a16 (R311). -/
def jumpIf : Cond → Word16 → Instr
  | .nz, v => .jnz v
  | .z, v => .jz v
  | .nc, v => .jnc v
  | .c, v => .jc v
  | .po, v => .jpo v
  | .pe, v => .jpe v
  | .p, v => .jp v
  | .m, v => .jm v

/-- Ccc a16 (R331). -/
def callIf : Cond → Word16 → Instr
  | .nz, v => .cnz v
  | .z, v => .cz v
  | .nc, v => .cnc v
  | .c, v => .cc v
  | .po, v => .cpo v
  | .pe, v => .cpe v
  | .p, v => .cp v
  | .m, v => .cm v

/-- Rcc (R333). -/
def returnIf : Cond → Instr
  | .nz => .rnz
  | .z => .rz
  | .nc => .rnc
  | .c => .rc
  | .po => .rpo
  | .pe => .rpe
  | .p => .rp
  | .m => .rm

/-- RST n (R334). -/
def rst : Fin 8 → Instr
  | 0 => .rst0
  | 1 => .rst1
  | 2 => .rst2
  | 3 => .rst3
  | 4 => .rst4
  | 5 => .rst5
  | 6 => .rst6
  | 7 => .rst7

/-- PUSH rp (R360). -/
def push : StackPair → Instr
  | .bc => .pushB
  | .de => .pushD
  | .hl => .pushH

/-- POP rp (R361). -/
def pop : StackPair → Instr
  | .bc => .popB
  | .de => .popD
  | .hl => .popH

/-- The twelve reserved bytes (R113) and the constructors that stand for them. -/
def reservedTable : List (Byte × Instr) :=
  [(0x08, .reserved08), (0x10, .reserved10), (0x18, .reserved18), (0x20, .reserved20), (0x28, .reserved28),
   (0x30, .reserved30), (0x38, .reserved38), (0xCB, .reservedCB), (0xD9, .reservedD9),
   (0xDD, .reservedDD), (0xED, .reservedED), (0xFD, .reservedFD)]

end Instr

end Sys2Proof
end

