-- ==== Sys2Proof/Machine/Ops.lean ====
section
/-! DEFINITION. Machine/Ops.lean: the shared operations over memory, the stack, the program counter and the run status
(00_scope.md rules R14, R17, R18). -/

namespace Sys2Proof.Machine

/-! ## Memory (R14, R43, R70 to R75) -/

/-- What an address the list does not name reads as. The spec leaves INIT_MEM unspecified (R450, D11); 0x00 is the
model's choice (DESIGN CHOICE, unsafe: log entry 5). -/
def Memory.unlisted : Byte := 0x00

/-- The canonical form: addresses strictly rising and below 65536, and no listed byte equal to what an unlisted address
reads as, so that equal memories are equal lists. -/
abbrev Memory.wf (m : Memory) : Prop :=
  m.Pairwise (fun x y => x.1 < y.1) ∧ ∀ c ∈ m, c.1 < 65536 ∧ c.2 ≠ Memory.unlisted

/-- The byte at address `n`. -/
def Memory.lookup : Memory → Nat → Byte
  | [], _ => Memory.unlisted
  | (k, v) :: m, n => if k = n then v else Memory.lookup m n

/-- The list with the cell `(n, v)` put before the first larger address. -/
def Memory.insert : Memory → Nat → Byte → Memory
  | [], n, v => [(n, v)]
  | (k, w) :: m, n, v => if n < k then (n, v) :: (k, w) :: m else (k, w) :: Memory.insert m n v

/-- The list without the address `n`. -/
def Memory.erase (m : Memory) (n : Nat) : Memory := m.filter (fun c => c.1 != n)

/-- `MemRead(a, 1)` (R14): the address decoder maps every 16-bit address to its byte, one to one (R70). -/
def Memory.read (m : Memory) (a : Word16) : Byte := m.lookup a.toNat

/-- `MemWrite(a, 1, v)` (R14), in canonical form: writing what an unlisted address reads as removes the cell. -/
def Memory.write (m : Memory) (a : Word16) (v : Byte) : Memory :=
  if v = Memory.unlisted then Memory.erase m a.toNat else Memory.insert (Memory.erase m a.toNat) a.toNat v

/-- The bytes of `bs` at `a` and upward, addresses mod 2^16 (R71, R453). -/
def Memory.writeBytes (m : Memory) (a : Word16) : List Byte → Memory
  | [] => m
  | b :: bs => Memory.writeBytes (m.write a b) (a + 1) bs

/-- `MemRead(a, 1)` (R14). -/
def State.readByte (s : State) (a : Word16) : Byte := s.mem.read a

/-- `MemRead(a, 2)` (R14): the low byte at `a`, the high byte at `a + 1` mod 2^16 (R73, R75). -/
def State.readWord (s : State) (a : Word16) : Word16 := pairOf (s.readByte (a + 1)) (s.readByte a)

/-- `MemWrite(a, 1, v)` (R14). -/
def State.writeByte (s : State) (a : Word16) (v : Byte) : State := { s with mem := s.mem.write a v }

/-- `MemWrite(a, 2, v)` (R14): the low byte at `a` and then the high byte at `a + 1` mod 2^16 (R73, R75). -/
def State.writeWord (s : State) (a : Word16) (v : Word16) : State :=
  (s.writeByte a (lowByte v)).writeByte (a + 1) (highByte v)

/-! ## The stack (R17, R34) -/

/-- `Push16(v)` (R17). -/
def State.push16 (s : State) (v : Word16) : State :=
  State.writeWord { s with sp := s.sp - 2 } (s.sp - 2) v

/-- `Pop16()` (R17): the value popped. -/
def State.topOfStack (s : State) : Word16 := s.readWord s.sp

/-- `Pop16()` (R17): the state after the pop. -/
def State.dropTop (s : State) : State := { s with sp := s.sp + 2 }

/-! ## The program counter and the run status (R18) -/

/-- `pc <- next` with `next = (pc0 + len) mod 2^16` (R16, R143). -/
def State.advance (s : State) (len : Nat) : State := { s with pc := s.pc + BitVec.ofNat 16 len }

/-- The end of a rule that does not assign pc: pc moves past the instruction's `len` bytes (R143). -/
def complete (len : Nat) (s : State) : Result := .next (s.advance len)

/-- `pc <- target` (R18). -/
def jumpTo (target : Word16) (s : State) : Result := .next { s with pc := target }

/-- `raise UnimplementedOpcode(opcode, pc0)` (R18), the one exception of the core (R420): the status becomes
Faulted(opcode, pc0), pc stays at pc0, and nothing else changes, is saved or is jumped to (R146, R426).
There is no return from it (R427). -/
def raiseUnimplemented (opcode : Byte) (s : State) : Result :=
  .next { s with status := .faulted opcode s.pc }

/-- `halt` (R18): the status becomes Halted (R145). -/
def State.halt (s : State) : State := { s with status := .halted }

/-- Halted and Faulted are the two terminal states (R45). -/
def RunStatus.isTerminal : RunStatus → Bool
  | .running => false
  | .halted => true
  | .faulted _ _ => true

end Sys2Proof.Machine
end

