-- ==== Sys2Proof/Machine/Operands.lean ====
section
/-! DEFINITION. Machine/Operands.lean: registers, pairs and the memory operand M (00_scope.md rules R13, R15;
10_state.md rules R30, R31; 30_encoding.md rules R104, R105). -/

namespace Sys2Proof.Machine

/-- `x[r]` (R13). -/
def RegFile.get (f : RegFile) : Reg → Byte
  | .a => f.a | .b => f.b | .c => f.c | .d => f.d | .e => f.e | .h => f.h | .l => f.l

/-- `x[r] <- v` (R13). -/
def RegFile.set (f : RegFile) (r : Reg) (v : Byte) : RegFile :=
  match r with
  | .a => { f with a := v }
  | .b => { f with b := v }
  | .c => { f with c := v }
  | .d => { f with d := v }
  | .e => { f with e := v }
  | .h => { f with h := v }
  | .l => { f with l := v }

/-- BC = {B, C} (R31). -/
def RegFile.bc (f : RegFile) : Word16 := pairOf f.b f.c

/-- DE = {D, E} (R31). -/
def RegFile.de (f : RegFile) : Word16 := pairOf f.d f.e

/-- HL = {H, L} (R31). -/
def RegFile.hl (f : RegFile) : Word16 := pairOf f.h f.l

/-- `x[r]` (R13). -/
def State.reg (s : State) (r : Reg) : Byte := s.regs.get r

/-- `x[r] <- v` (R13). -/
def State.setReg (s : State) (r : Reg) (v : Byte) : State := { s with regs := s.regs.set r v }

/-- `rp[p]` (R13, R105 first column). -/
def State.pair (s : State) : Pair → Word16
  | .bc => s.regs.bc
  | .de => s.regs.de
  | .hl => s.regs.hl
  | .sp => s.sp

/-- `rp[p] <- v` (R13): both registers of the pair are written, the high byte to the first named (R31). -/
def State.setPair (s : State) (p : Pair) (v : Word16) : State :=
  match p with
  | .bc => { s with regs := { s.regs with b := highByte v, c := lowByte v } }
  | .de => { s with regs := { s.regs with d := highByte v, e := lowByte v } }
  | .hl => { s with regs := { s.regs with h := highByte v, l := lowByte v } }
  | .sp => { s with sp := v }

/-- `operand8(r)` (R15): a register, or M, the byte at HL. -/
def State.operand8 (s : State) : Operand8 → Byte
  | .reg r => s.reg r
  | .m => s.readByte s.regs.hl

/-- `set8(r, v)` (R15). -/
def State.setOperand8 (s : State) (o : Operand8) (v : Byte) : State :=
  match o with
  | .reg r => s.setReg r v
  | .m => s.writeByte s.regs.hl v

end Sys2Proof.Machine
end

