-- ==== Sys2Proof/Machine/Arithmetic.lean ====
section
/-! DEFINITION. Machine/Arithmetic.lean: ADD, ADC, SUB, SBB and their immediate forms, INR, DCR, INX, DCX, DAD, DAA
(43_arithmetic.md). -/

namespace Sys2Proof.Machine

/-! ## Shared operations -/

/-- The exact sum reduced mod 2^8 (R259). -/
def sum8 (a v : Byte) (c : Bool) : Byte := BitVec.ofNat 8 (a.toNat + v.toNat + c.toNat)

/-- The exact difference reduced mod 2^8 (R259). -/
def diff8 (a v : Byte) (c : Bool) : Byte := BitVec.ofInt 8 ((a.toNat : Int) - v.toNat - c.toNat)

/-- A <- A + v + c with the flags of class add (R240, R242). -/
def State.addToA (s : State) (v : Byte) (c : Bool) : State :=
  { s with
    regs := { s.regs with a := sum8 s.regs.a v c }
    flags := s.flags.afterAdd s.regs.a v c (sum8 s.regs.a v c) }

/-- A <- A - v - c with the flags of class subtract (R244, R246). -/
def State.subFromA (s : State) (v : Byte) (c : Bool) : State :=
  { s with
    regs := { s.regs with a := diff8 s.regs.a v c }
    flags := s.flags.afterSub s.regs.a v c (diff8 s.regs.a v c) }

/-- ADD r and ADD M (R240, R241). -/
def addOperand (o : Operand8) (s : State) : Result := complete 1 (s.addToA (s.operand8 o) false)

/-- ADC r and ADC M (R242, R243). -/
def addOperandWithCarry (o : Operand8) (s : State) : Result :=
  complete 1 (s.addToA (s.operand8 o) s.flags.cy)

/-- SUB r and SUB M (R244, R245). -/
def subOperand (o : Operand8) (s : State) : Result := complete 1 (s.subFromA (s.operand8 o) false)

/-- SBB r and SBB M (R246, R247). -/
def subOperandWithBorrow (o : Operand8) (s : State) : Result :=
  complete 1 (s.subFromA (s.operand8 o) s.flags.cy)

/-- INR r and INR M (R252, R253); CY is not written. -/
def incrementOperand (o : Operand8) (s : State) : Result :=
  complete 1 { s.setOperand8 o (s.operand8 o + 1) with
    flags := s.flags.afterIncrement (s.operand8 o) (s.operand8 o + 1) }

/-- DCR r and DCR M (R254, R255); CY is not written. -/
def decrementOperand (o : Operand8) (s : State) : Result :=
  complete 1 { s.setOperand8 o (s.operand8 o - 1) with flags := s.flags.afterDecrement (s.operand8 o - 1) }

/-- INX rp (R256), mod 2^16, no flag. -/
def incrementPair (p : Pair) (s : State) : Result := complete 1 (s.setPair p (s.pair p + 1))

/-- DCX rp (R257), mod 2^16, no flag. -/
def decrementPair (p : Pair) (s : State) : Result := complete 1 (s.setPair p (s.pair p - 1))

/-- DAD rp (R258): CY alone is written. -/
def doubleAdd (p : Pair) (s : State) : Result :=
  complete 1 { s.setPair .hl (s.regs.hl + s.pair p) with flags := s.flags.withCarry (carry16 s.regs.hl (s.pair p)) }

/-- The correction byte of DAA (R260). -/
def daaCorrection (a : Byte) (f : Flags) : Byte :=
  (if a.toNat % 16 > 9 ∨ f.ac then 0x06#8 else 0x00#8) ||| (if a.toNat > 0x99 ∨ f.cy then 0x60#8 else 0x00#8)

/-- DAA under `DAA_MODE = Reference` (R260). -/
def State.decimalAdjust (s : State) : State :=
  let corr := daaCorrection s.regs.a s.flags
  let t := s.regs.a + corr
  { s with
    regs := { s.regs with a := t }
    flags := { s.flags.setZSP t with
      cy := s.flags.cy || decide (s.regs.a.toNat > 0x99)
      ac := acAdd s.regs.a corr false } }

/-! ## Meanings -/

/-- INX B (0x03), R256. -/
def execInxB (s : State) : Result := incrementPair .bc s

/-- INR B (0x04), R252. -/
def execInrB (s : State) : Result := incrementOperand (.reg .b) s

/-- DCR B (0x05), R254. -/
def execDcrB (s : State) : Result := decrementOperand (.reg .b) s

/-- DAD B (0x09), R258. -/
def execDadB (s : State) : Result := doubleAdd .bc s

/-- DCX B (0x0B), R257. -/
def execDcxB (s : State) : Result := decrementPair .bc s

/-- INR C (0x0C), R252. -/
def execInrC (s : State) : Result := incrementOperand (.reg .c) s

/-- DCR C (0x0D), R254. -/
def execDcrC (s : State) : Result := decrementOperand (.reg .c) s

/-- INX D (0x13), R256. -/
def execInxD (s : State) : Result := incrementPair .de s

/-- INR D (0x14), R252. -/
def execInrD (s : State) : Result := incrementOperand (.reg .d) s

/-- DCR D (0x15), R254. -/
def execDcrD (s : State) : Result := decrementOperand (.reg .d) s

/-- DAD D (0x19), R258. -/
def execDadD (s : State) : Result := doubleAdd .de s

/-- DCX D (0x1B), R257. -/
def execDcxD (s : State) : Result := decrementPair .de s

/-- INR E (0x1C), R252. -/
def execInrE (s : State) : Result := incrementOperand (.reg .e) s

/-- DCR E (0x1D), R254. -/
def execDcrE (s : State) : Result := decrementOperand (.reg .e) s

/-- INX H (0x23), R256. -/
def execInxH (s : State) : Result := incrementPair .hl s

/-- INR H (0x24), R252. -/
def execInrH (s : State) : Result := incrementOperand (.reg .h) s

/-- DCR H (0x25), R254. -/
def execDcrH (s : State) : Result := decrementOperand (.reg .h) s

/-- DAD H (0x29), R258. -/
def execDadH (s : State) : Result := doubleAdd .hl s

/-- DCX H (0x2B), R257. -/
def execDcxH (s : State) : Result := decrementPair .hl s

/-- INR L (0x2C), R252. -/
def execInrL (s : State) : Result := incrementOperand (.reg .l) s

/-- DCR L (0x2D), R254. -/
def execDcrL (s : State) : Result := decrementOperand (.reg .l) s

/-- INX SP (0x33), R256. -/
def execInxSP (s : State) : Result := incrementPair .sp s

/-- INR M (0x34), R253. -/
def execInrM (s : State) : Result := incrementOperand .m s

/-- DCR M (0x35), R255. -/
def execDcrM (s : State) : Result := decrementOperand .m s

/-- DAD SP (0x39), R258. -/
def execDadSP (s : State) : Result := doubleAdd .sp s

/-- DCX SP (0x3B), R257. -/
def execDcxSP (s : State) : Result := decrementPair .sp s

/-- INR A (0x3C), R252. -/
def execInrA (s : State) : Result := incrementOperand (.reg .a) s

/-- DCR A (0x3D), R254. -/
def execDcrA (s : State) : Result := decrementOperand (.reg .a) s

/-- ADD B (0x80), R240. -/
def execAddB (s : State) : Result := addOperand (.reg .b) s

/-- ADD C (0x81), R240. -/
def execAddC (s : State) : Result := addOperand (.reg .c) s

/-- ADD D (0x82), R240. -/
def execAddD (s : State) : Result := addOperand (.reg .d) s

/-- ADD E (0x83), R240. -/
def execAddE (s : State) : Result := addOperand (.reg .e) s

/-- ADD H (0x84), R240. -/
def execAddH (s : State) : Result := addOperand (.reg .h) s

/-- ADD L (0x85), R240. -/
def execAddL (s : State) : Result := addOperand (.reg .l) s

/-- ADD M (0x86), R241. -/
def execAddM (s : State) : Result := addOperand .m s

/-- ADD A (0x87), R240. -/
def execAddA (s : State) : Result := addOperand (.reg .a) s

/-- ADC B (0x88), R242. -/
def execAdcB (s : State) : Result := addOperandWithCarry (.reg .b) s

/-- ADC C (0x89), R242. -/
def execAdcC (s : State) : Result := addOperandWithCarry (.reg .c) s

/-- ADC D (0x8A), R242. -/
def execAdcD (s : State) : Result := addOperandWithCarry (.reg .d) s

/-- ADC E (0x8B), R242. -/
def execAdcE (s : State) : Result := addOperandWithCarry (.reg .e) s

/-- ADC H (0x8C), R242. -/
def execAdcH (s : State) : Result := addOperandWithCarry (.reg .h) s

/-- ADC L (0x8D), R242. -/
def execAdcL (s : State) : Result := addOperandWithCarry (.reg .l) s

/-- ADC M (0x8E), R243. -/
def execAdcM (s : State) : Result := addOperandWithCarry .m s

/-- ADC A (0x8F), R242. -/
def execAdcA (s : State) : Result := addOperandWithCarry (.reg .a) s

/-- SUB B (0x90), R244. -/
def execSubB (s : State) : Result := subOperand (.reg .b) s

/-- SUB C (0x91), R244. -/
def execSubC (s : State) : Result := subOperand (.reg .c) s

/-- SUB D (0x92), R244. -/
def execSubD (s : State) : Result := subOperand (.reg .d) s

/-- SUB E (0x93), R244. -/
def execSubE (s : State) : Result := subOperand (.reg .e) s

/-- SUB H (0x94), R244. -/
def execSubH (s : State) : Result := subOperand (.reg .h) s

/-- SUB L (0x95), R244. -/
def execSubL (s : State) : Result := subOperand (.reg .l) s

/-- SUB M (0x96), R245. -/
def execSubM (s : State) : Result := subOperand .m s

/-- SUB A (0x97), R244. -/
def execSubA (s : State) : Result := subOperand (.reg .a) s

/-- SBB B (0x98), R246. -/
def execSbbB (s : State) : Result := subOperandWithBorrow (.reg .b) s

/-- SBB C (0x99), R246. -/
def execSbbC (s : State) : Result := subOperandWithBorrow (.reg .c) s

/-- SBB D (0x9A), R246. -/
def execSbbD (s : State) : Result := subOperandWithBorrow (.reg .d) s

/-- SBB E (0x9B), R246. -/
def execSbbE (s : State) : Result := subOperandWithBorrow (.reg .e) s

/-- SBB H (0x9C), R246. -/
def execSbbH (s : State) : Result := subOperandWithBorrow (.reg .h) s

/-- SBB L (0x9D), R246. -/
def execSbbL (s : State) : Result := subOperandWithBorrow (.reg .l) s

/-- SBB M (0x9E), R247. -/
def execSbbM (s : State) : Result := subOperandWithBorrow .m s

/-- SBB A (0x9F), R246. -/
def execSbbA (s : State) : Result := subOperandWithBorrow (.reg .a) s

/-- ADI d8 (0xC6), R248. -/
def execAdi (d8 : Byte) (s : State) : Result := complete 2 (s.addToA d8 false)

/-- ACI d8 (0xCE), R249. -/
def execAci (d8 : Byte) (s : State) : Result := complete 2 (s.addToA d8 s.flags.cy)

/-- SUI d8 (0xD6), R250. -/
def execSui (d8 : Byte) (s : State) : Result := complete 2 (s.subFromA d8 false)

/-- SBI d8 (0xDE), R251. -/
def execSbi (d8 : Byte) (s : State) : Result := complete 2 (s.subFromA d8 s.flags.cy)

end Sys2Proof.Machine
end

