-- ==== Sys2Proof/Machine/Branch.lean ====
section
/-! DEFINITION. Machine/Branch.lean: JMP, Jcc, PCHL (45_branch.md).
No instruction here writes a flag, a register or memory. -/

namespace Sys2Proof.Machine

/-! ## Shared operations -/

/-- Jcc a16 (R311). -/
def jumpWhen (cc : Cond) (a16 : Word16) (s : State) : Result :=
  if s.flags.cond cc then jumpTo a16 s else complete 3 s

/-! ## Meanings -/

/-- JNZ a16 (0xC2), R311. -/
def execJnz (a16 : Word16) (s : State) : Result := jumpWhen .nz a16 s

/-- JMP a16 (0xC3), R310. -/
def execJmp (a16 : Word16) (s : State) : Result := jumpTo a16 s

/-- JZ a16 (0xCA), R311. -/
def execJz (a16 : Word16) (s : State) : Result := jumpWhen .z a16 s

/-- JNC a16 (0xD2), R311. -/
def execJnc (a16 : Word16) (s : State) : Result := jumpWhen .nc a16 s

/-- JC a16 (0xDA), R311. -/
def execJc (a16 : Word16) (s : State) : Result := jumpWhen .c a16 s

/-- JPO a16 (0xE2), R311. -/
def execJpo (a16 : Word16) (s : State) : Result := jumpWhen .po a16 s

/-- PCHL (0xE9), R312. -/
def execPchl (s : State) : Result := jumpTo s.regs.hl s

/-- JPE a16 (0xEA), R311. -/
def execJpe (a16 : Word16) (s : State) : Result := jumpWhen .pe a16 s

/-- JP a16 (0xF2), R311. -/
def execJp (a16 : Word16) (s : State) : Result := jumpWhen .p a16 s

/-- JM a16 (0xFA), R311. -/
def execJm (a16 : Word16) (s : State) : Result := jumpWhen .m a16 s

end Sys2Proof.Machine
end

