-- ==== Sys2Proof/Machine/Control.lean ====
section
/-! DEFINITION. Machine/Control.lean: HLT, EI, DI, CMA, CMC, STC, RLC, RRC, RAL, RAR, NOP, IN, OUT, DAA and the
reserved bytes (48_control.md; 43_arithmetic.md rules R260, R262). -/

namespace Sys2Proof.Machine

/-! ## Shared operations -/

/-- A carry or a shifted-out bit as the byte 0x00 or 0x01. -/
def bit0 (b : Bool) : Byte := if b then 0x01 else 0x00

/-- A <- t and CY <- cy: what every rotate writes (R389 to R392). -/
def State.rotateA (s : State) (t : Byte) (cy : Bool) : State :=
  { s with regs := { s.regs with a := t }, flags := s.flags.withCarry cy }

/-- A reserved opcode byte (R397): it raises UnimplementedOpcode, or is a 1-byte no-op. -/
def executeReserved (opcode : Byte) (s : State) : Result :=
  match s.cfg.reservedPolicy with
  | .fault => raiseUnimplemented opcode s
  | .noOp1 => complete 1 s

/-! ## Meanings -/

/-- NOP (0x00), R393. -/
def execNop (s : State) : Result := complete 1 s

/-- RLC (0x07), R389. -/
def execRlc (s : State) : Result :=
  complete 1 (s.rotateA (s.regs.a <<< 1 ||| bit0 (s.regs.a.getLsbD 7)) (s.regs.a.getLsbD 7))

/-- reserved 0x08 (0x08), R397. -/
def execReserved08 (s : State) : Result := executeReserved 0x08 s

/-- RRC (0x0F), R390. -/
def execRrc (s : State) : Result :=
  complete 1 (s.rotateA (s.regs.a >>> 1 ||| bit0 (s.regs.a.getLsbD 0) <<< 7) (s.regs.a.getLsbD 0))

/-- reserved 0x10 (0x10), R397. -/
def execReserved10 (s : State) : Result := executeReserved 0x10 s

/-- RAL (0x17), R391: the previous CY enters at bit 0. -/
def execRal (s : State) : Result := complete 1 (s.rotateA (s.regs.a <<< 1 ||| bit0 s.flags.cy) (s.regs.a.getLsbD 7))

/-- reserved 0x18 (0x18), R397. -/
def execReserved18 (s : State) : Result := executeReserved 0x18 s

/-- RAR (0x1F), R392: the previous CY enters at bit 7. -/
def execRar (s : State) : Result :=
  complete 1 (s.rotateA (s.regs.a >>> 1 ||| bit0 s.flags.cy <<< 7) (s.regs.a.getLsbD 0))

/-- reserved 0x20 (0x20), R397. -/
def execReserved20 (s : State) : Result := executeReserved 0x20 s

/-- DAA (0x27), R260 and R262: the decimal adjustment, or UnimplementedOpcode under `DAA_MODE = Fault`. -/
def execDaa (s : State) : Result :=
  match s.cfg.daaMode with
  | .reference => complete 1 s.decimalAdjust
  | .fault => raiseUnimplemented 0x27 s

/-- reserved 0x28 (0x28), R397. -/
def execReserved28 (s : State) : Result := executeReserved 0x28 s

/-- CMA (0x2F), R386. -/
def execCma (s : State) : Result := complete 1 { s with regs := { s.regs with a := ~~~s.regs.a } }

/-- reserved 0x30 (0x30), R397. -/
def execReserved30 (s : State) : Result := executeReserved 0x30 s

/-- STC (0x37), R388. -/
def execStc (s : State) : Result := complete 1 { s with flags := s.flags.withCarry true }

/-- reserved 0x38 (0x38), R397. -/
def execReserved38 (s : State) : Result := executeReserved 0x38 s

/-- CMC (0x3F), R387. -/
def execCmc (s : State) : Result := complete 1 { s with flags := s.flags.withCarry (!s.flags.cy) }

/-- HLT (0x76), R380: pc moves past HLT and the status becomes Halted. -/
def execHlt (s : State) : Result := complete 1 s.halt

/-- reserved 0xCB (0xCB), R397. -/
def execReservedCB (s : State) : Result := executeReserved 0xCB s

/-- OUT port (0xD3), R395: the port byte is fetched and nothing is written. -/
def execOutPort (_port : Byte) (s : State) : Result := complete 2 s

/-- reserved 0xD9 (0xD9), R397. -/
def execReservedD9 (s : State) : Result := executeReserved 0xD9 s

/-- IN port (0xDB), R394: the port byte is fetched and nothing is written. -/
def execInPort (_port : Byte) (s : State) : Result := complete 2 s

/-- reserved 0xDD (0xDD), R397. -/
def execReservedDD (s : State) : Result := executeReserved 0xDD s

/-- reserved 0xED (0xED), R397. -/
def execReservedED (s : State) : Result := executeReserved 0xED s

/-- DI (0xF3), R385. -/
def execDi (s : State) : Result := complete 1 { s with inte := false }

/-- EI (0xFB), R384. -/
def execEi (s : State) : Result := complete 1 { s with inte := true }

/-- reserved 0xFD (0xFD), R397. -/
def execReservedFD (s : State) : Result := executeReserved 0xFD s

end Sys2Proof.Machine
end

