-- ==== Sys2Proof/Machine/DataMovement.lean ====
section
/-! DEFINITION. Machine/DataMovement.lean: MOV, MVI, LXI, LDAX, STAX, LDA, STA, LHLD, SHLD, XCHG, XTHL
(42_data_movement.md). No instruction here writes a flag. -/

namespace Sys2Proof.Machine

/-! ## Shared operations -/

/-- MOV r,r' (R200). -/
def moveRegister (dst src : Reg) (s : State) : Result := complete 1 (s.setReg dst (s.reg src))

/-- MOV r,M (R201): HL is read before `dst` is written. -/
def moveFromMemory (dst : Reg) (s : State) : Result := complete 1 (s.setReg dst (s.readByte s.regs.hl))

/-- MOV M,r (R202). -/
def moveToMemory (r : Reg) (s : State) : Result := complete 1 (s.writeByte s.regs.hl (s.reg r))

/-- MVI r,d8 and MVI M,d8 (R203, R204). -/
def moveImmediate (o : Operand8) (d8 : Byte) (s : State) : Result := complete 2 (s.setOperand8 o d8)

/-- LXI rp,d16 (R205). -/
def loadPairImmediate (p : Pair) (d16 : Word16) (s : State) : Result := complete 3 (s.setPair p d16)

/-- LDAX rp (R206). -/
def loadIndirect (p : PointerPair) (s : State) : Result := complete 1 (s.setReg .a (s.readByte (s.pair p.toPair)))

/-- STAX rp (R207). -/
def storeIndirect (p : PointerPair) (s : State) : Result := complete 1 (s.writeByte (s.pair p.toPair) s.regs.a)

/-! ## Meanings -/

/-- LXI B,d16 (0x01), R205. -/
def execLxiB (d16 : Word16) (s : State) : Result := loadPairImmediate .bc d16 s

/-- STAX B (0x02), R207. -/
def execStaxB (s : State) : Result := storeIndirect .bc s

/-- MVI B,d8 (0x06), R203. -/
def execMviB (d8 : Byte) (s : State) : Result := moveImmediate (.reg .b) d8 s

/-- LDAX B (0x0A), R206. -/
def execLdaxB (s : State) : Result := loadIndirect .bc s

/-- MVI C,d8 (0x0E), R203. -/
def execMviC (d8 : Byte) (s : State) : Result := moveImmediate (.reg .c) d8 s

/-- LXI D,d16 (0x11), R205. -/
def execLxiD (d16 : Word16) (s : State) : Result := loadPairImmediate .de d16 s

/-- STAX D (0x12), R207. -/
def execStaxD (s : State) : Result := storeIndirect .de s

/-- MVI D,d8 (0x16), R203. -/
def execMviD (d8 : Byte) (s : State) : Result := moveImmediate (.reg .d) d8 s

/-- LDAX D (0x1A), R206. -/
def execLdaxD (s : State) : Result := loadIndirect .de s

/-- MVI E,d8 (0x1E), R203. -/
def execMviE (d8 : Byte) (s : State) : Result := moveImmediate (.reg .e) d8 s

/-- LXI H,d16 (0x21), R205. -/
def execLxiH (d16 : Word16) (s : State) : Result := loadPairImmediate .hl d16 s

/-- SHLD a16 (0x22), R211: L to a16, H to a16 + 1. -/
def execShld (a16 : Word16) (s : State) : Result := complete 3 (s.writeWord a16 s.regs.hl)

/-- MVI H,d8 (0x26), R203. -/
def execMviH (d8 : Byte) (s : State) : Result := moveImmediate (.reg .h) d8 s

/-- LHLD a16 (0x2A), R210: L from a16, H from a16 + 1. -/
def execLhld (a16 : Word16) (s : State) : Result := complete 3 (s.setPair .hl (s.readWord a16))

/-- MVI L,d8 (0x2E), R203. -/
def execMviL (d8 : Byte) (s : State) : Result := moveImmediate (.reg .l) d8 s

/-- LXI SP,d16 (0x31), R205. -/
def execLxiSP (d16 : Word16) (s : State) : Result := loadPairImmediate .sp d16 s

/-- STA a16 (0x32), R209. -/
def execSta (a16 : Word16) (s : State) : Result := complete 3 (s.writeByte a16 s.regs.a)

/-- MVI M,d8 (0x36), R204. -/
def execMviM (d8 : Byte) (s : State) : Result := moveImmediate .m d8 s

/-- LDA a16 (0x3A), R208. -/
def execLda (a16 : Word16) (s : State) : Result := complete 3 (s.setReg .a (s.readByte a16))

/-- MVI A,d8 (0x3E), R203. -/
def execMviA (d8 : Byte) (s : State) : Result := moveImmediate (.reg .a) d8 s

/-- MOV B,B (0x40), R200. -/
def execMovBB (s : State) : Result := moveRegister .b .b s

/-- MOV B,C (0x41), R200. -/
def execMovBC (s : State) : Result := moveRegister .b .c s

/-- MOV B,D (0x42), R200. -/
def execMovBD (s : State) : Result := moveRegister .b .d s

/-- MOV B,E (0x43), R200. -/
def execMovBE (s : State) : Result := moveRegister .b .e s

/-- MOV B,H (0x44), R200. -/
def execMovBH (s : State) : Result := moveRegister .b .h s

/-- MOV B,L (0x45), R200. -/
def execMovBL (s : State) : Result := moveRegister .b .l s

/-- MOV B,M (0x46), R201. -/
def execMovBM (s : State) : Result := moveFromMemory .b s

/-- MOV B,A (0x47), R200. -/
def execMovBA (s : State) : Result := moveRegister .b .a s

/-- MOV C,B (0x48), R200. -/
def execMovCB (s : State) : Result := moveRegister .c .b s

/-- MOV C,C (0x49), R200. -/
def execMovCC (s : State) : Result := moveRegister .c .c s

/-- MOV C,D (0x4A), R200. -/
def execMovCD (s : State) : Result := moveRegister .c .d s

/-- MOV C,E (0x4B), R200. -/
def execMovCE (s : State) : Result := moveRegister .c .e s

/-- MOV C,H (0x4C), R200. -/
def execMovCH (s : State) : Result := moveRegister .c .h s

/-- MOV C,L (0x4D), R200. -/
def execMovCL (s : State) : Result := moveRegister .c .l s

/-- MOV C,M (0x4E), R201. -/
def execMovCM (s : State) : Result := moveFromMemory .c s

/-- MOV C,A (0x4F), R200. -/
def execMovCA (s : State) : Result := moveRegister .c .a s

/-- MOV D,B (0x50), R200. -/
def execMovDB (s : State) : Result := moveRegister .d .b s

/-- MOV D,C (0x51), R200. -/
def execMovDC (s : State) : Result := moveRegister .d .c s

/-- MOV D,D (0x52), R200. -/
def execMovDD (s : State) : Result := moveRegister .d .d s

/-- MOV D,E (0x53), R200. -/
def execMovDE (s : State) : Result := moveRegister .d .e s

/-- MOV D,H (0x54), R200. -/
def execMovDH (s : State) : Result := moveRegister .d .h s

/-- MOV D,L (0x55), R200. -/
def execMovDL (s : State) : Result := moveRegister .d .l s

/-- MOV D,M (0x56), R201. -/
def execMovDM (s : State) : Result := moveFromMemory .d s

/-- MOV D,A (0x57), R200. -/
def execMovDA (s : State) : Result := moveRegister .d .a s

/-- MOV E,B (0x58), R200. -/
def execMovEB (s : State) : Result := moveRegister .e .b s

/-- MOV E,C (0x59), R200. -/
def execMovEC (s : State) : Result := moveRegister .e .c s

/-- MOV E,D (0x5A), R200. -/
def execMovED (s : State) : Result := moveRegister .e .d s

/-- MOV E,E (0x5B), R200. -/
def execMovEE (s : State) : Result := moveRegister .e .e s

/-- MOV E,H (0x5C), R200. -/
def execMovEH (s : State) : Result := moveRegister .e .h s

/-- MOV E,L (0x5D), R200. -/
def execMovEL (s : State) : Result := moveRegister .e .l s

/-- MOV E,M (0x5E), R201. -/
def execMovEM (s : State) : Result := moveFromMemory .e s

/-- MOV E,A (0x5F), R200. -/
def execMovEA (s : State) : Result := moveRegister .e .a s

/-- MOV H,B (0x60), R200. -/
def execMovHB (s : State) : Result := moveRegister .h .b s

/-- MOV H,C (0x61), R200. -/
def execMovHC (s : State) : Result := moveRegister .h .c s

/-- MOV H,D (0x62), R200. -/
def execMovHD (s : State) : Result := moveRegister .h .d s

/-- MOV H,E (0x63), R200. -/
def execMovHE (s : State) : Result := moveRegister .h .e s

/-- MOV H,H (0x64), R200. -/
def execMovHH (s : State) : Result := moveRegister .h .h s

/-- MOV H,L (0x65), R200. -/
def execMovHL (s : State) : Result := moveRegister .h .l s

/-- MOV H,M (0x66), R201. -/
def execMovHM (s : State) : Result := moveFromMemory .h s

/-- MOV H,A (0x67), R200. -/
def execMovHA (s : State) : Result := moveRegister .h .a s

/-- MOV L,B (0x68), R200. -/
def execMovLB (s : State) : Result := moveRegister .l .b s

/-- MOV L,C (0x69), R200. -/
def execMovLC (s : State) : Result := moveRegister .l .c s

/-- MOV L,D (0x6A), R200. -/
def execMovLD (s : State) : Result := moveRegister .l .d s

/-- MOV L,E (0x6B), R200. -/
def execMovLE (s : State) : Result := moveRegister .l .e s

/-- MOV L,H (0x6C), R200. -/
def execMovLH (s : State) : Result := moveRegister .l .h s

/-- MOV L,L (0x6D), R200. -/
def execMovLL (s : State) : Result := moveRegister .l .l s

/-- MOV L,M (0x6E), R201. -/
def execMovLM (s : State) : Result := moveFromMemory .l s

/-- MOV L,A (0x6F), R200. -/
def execMovLA (s : State) : Result := moveRegister .l .a s

/-- MOV M,B (0x70), R202. -/
def execMovMB (s : State) : Result := moveToMemory .b s

/-- MOV M,C (0x71), R202. -/
def execMovMC (s : State) : Result := moveToMemory .c s

/-- MOV M,D (0x72), R202. -/
def execMovMD (s : State) : Result := moveToMemory .d s

/-- MOV M,E (0x73), R202. -/
def execMovME (s : State) : Result := moveToMemory .e s

/-- MOV M,H (0x74), R202. -/
def execMovMH (s : State) : Result := moveToMemory .h s

/-- MOV M,L (0x75), R202. -/
def execMovML (s : State) : Result := moveToMemory .l s

/-- MOV M,A (0x77), R202. -/
def execMovMA (s : State) : Result := moveToMemory .a s

/-- MOV A,B (0x78), R200. -/
def execMovAB (s : State) : Result := moveRegister .a .b s

/-- MOV A,C (0x79), R200. -/
def execMovAC (s : State) : Result := moveRegister .a .c s

/-- MOV A,D (0x7A), R200. -/
def execMovAD (s : State) : Result := moveRegister .a .d s

/-- MOV A,E (0x7B), R200. -/
def execMovAE (s : State) : Result := moveRegister .a .e s

/-- MOV A,H (0x7C), R200. -/
def execMovAH (s : State) : Result := moveRegister .a .h s

/-- MOV A,L (0x7D), R200. -/
def execMovAL (s : State) : Result := moveRegister .a .l s

/-- MOV A,M (0x7E), R201. -/
def execMovAM (s : State) : Result := moveFromMemory .a s

/-- MOV A,A (0x7F), R200. -/
def execMovAA (s : State) : Result := moveRegister .a .a s

/-- XTHL (0xE3), R213: the old cell is read before it is written; SP is kept. -/
def execXthl (s : State) : Result := complete 1 ((s.writeWord s.sp s.regs.hl).setPair .hl s.topOfStack)

/-- XCHG (0xEB), R212. -/
def execXchg (s : State) : Result := complete 1 ((s.setPair .hl s.regs.de).setPair .de s.regs.hl)

end Sys2Proof.Machine
end

