-- ==== Sys2Proof/Machine/Logic.lean ====
section
/-! DEFINITION. Machine/Logic.lean: ANA, XRA, ORA, CMP and their immediate forms (44_logic.md). -/

namespace Sys2Proof.Machine

/-! ## Shared operations -/

/-- A <- t with the flags of class logical (R179). -/
def State.logicToA (s : State) (t : Byte) : State :=
  { s with regs := { s.regs with a := t }, flags := s.flags.afterLogic t }

/-- Compare against `v` (R178): the flags of A - v; A is not written. -/
def State.compareA (s : State) (v : Byte) : State :=
  { s with flags := s.flags.afterSub s.regs.a v false (diff8 s.regs.a v false) }

/-- ANA r and ANA M (R280, R281). -/
def andOperand (o : Operand8) (s : State) : Result := complete 1 (s.logicToA (s.regs.a &&& s.operand8 o))

/-- XRA r and XRA M (R282, R283). -/
def xorOperand (o : Operand8) (s : State) : Result := complete 1 (s.logicToA (s.regs.a ^^^ s.operand8 o))

/-- ORA r and ORA M (R284, R285). -/
def orOperand (o : Operand8) (s : State) : Result := complete 1 (s.logicToA (s.regs.a ||| s.operand8 o))

/-- CMP r and CMP M (R286, R287). -/
def compareOperand (o : Operand8) (s : State) : Result := complete 1 (s.compareA (s.operand8 o))

/-! ## Meanings -/

/-- ANA B (0xA0), R280. -/
def execAnaB (s : State) : Result := andOperand (.reg .b) s

/-- ANA C (0xA1), R280. -/
def execAnaC (s : State) : Result := andOperand (.reg .c) s

/-- ANA D (0xA2), R280. -/
def execAnaD (s : State) : Result := andOperand (.reg .d) s

/-- ANA E (0xA3), R280. -/
def execAnaE (s : State) : Result := andOperand (.reg .e) s

/-- ANA H (0xA4), R280. -/
def execAnaH (s : State) : Result := andOperand (.reg .h) s

/-- ANA L (0xA5), R280. -/
def execAnaL (s : State) : Result := andOperand (.reg .l) s

/-- ANA M (0xA6), R281. -/
def execAnaM (s : State) : Result := andOperand .m s

/-- ANA A (0xA7), R280. -/
def execAnaA (s : State) : Result := andOperand (.reg .a) s

/-- XRA B (0xA8), R282. -/
def execXraB (s : State) : Result := xorOperand (.reg .b) s

/-- XRA C (0xA9), R282. -/
def execXraC (s : State) : Result := xorOperand (.reg .c) s

/-- XRA D (0xAA), R282. -/
def execXraD (s : State) : Result := xorOperand (.reg .d) s

/-- XRA E (0xAB), R282. -/
def execXraE (s : State) : Result := xorOperand (.reg .e) s

/-- XRA H (0xAC), R282. -/
def execXraH (s : State) : Result := xorOperand (.reg .h) s

/-- XRA L (0xAD), R282. -/
def execXraL (s : State) : Result := xorOperand (.reg .l) s

/-- XRA M (0xAE), R283. -/
def execXraM (s : State) : Result := xorOperand .m s

/-- XRA A (0xAF), R282. -/
def execXraA (s : State) : Result := xorOperand (.reg .a) s

/-- ORA B (0xB0), R284. -/
def execOraB (s : State) : Result := orOperand (.reg .b) s

/-- ORA C (0xB1), R284. -/
def execOraC (s : State) : Result := orOperand (.reg .c) s

/-- ORA D (0xB2), R284. -/
def execOraD (s : State) : Result := orOperand (.reg .d) s

/-- ORA E (0xB3), R284. -/
def execOraE (s : State) : Result := orOperand (.reg .e) s

/-- ORA H (0xB4), R284. -/
def execOraH (s : State) : Result := orOperand (.reg .h) s

/-- ORA L (0xB5), R284. -/
def execOraL (s : State) : Result := orOperand (.reg .l) s

/-- ORA M (0xB6), R285. -/
def execOraM (s : State) : Result := orOperand .m s

/-- ORA A (0xB7), R284. -/
def execOraA (s : State) : Result := orOperand (.reg .a) s

/-- CMP B (0xB8), R286. -/
def execCmpB (s : State) : Result := compareOperand (.reg .b) s

/-- CMP C (0xB9), R286. -/
def execCmpC (s : State) : Result := compareOperand (.reg .c) s

/-- CMP D (0xBA), R286. -/
def execCmpD (s : State) : Result := compareOperand (.reg .d) s

/-- CMP E (0xBB), R286. -/
def execCmpE (s : State) : Result := compareOperand (.reg .e) s

/-- CMP H (0xBC), R286. -/
def execCmpH (s : State) : Result := compareOperand (.reg .h) s

/-- CMP L (0xBD), R286. -/
def execCmpL (s : State) : Result := compareOperand (.reg .l) s

/-- CMP M (0xBE), R287. -/
def execCmpM (s : State) : Result := compareOperand .m s

/-- CMP A (0xBF), R286. -/
def execCmpA (s : State) : Result := compareOperand (.reg .a) s

/-- ANI d8 (0xE6), R288. -/
def execAni (d8 : Byte) (s : State) : Result := complete 2 (s.logicToA (s.regs.a &&& d8))

/-- XRI d8 (0xEE), R289. -/
def execXri (d8 : Byte) (s : State) : Result := complete 2 (s.logicToA (s.regs.a ^^^ d8))

/-- ORI d8 (0xF6), R290. -/
def execOri (d8 : Byte) (s : State) : Result := complete 2 (s.logicToA (s.regs.a ||| d8))

/-- CPI d8 (0xFE), R291. -/
def execCpi (d8 : Byte) (s : State) : Result := complete 2 (s.compareA d8)

end Sys2Proof.Machine
end

