-- ==== Sys2Proof/Machine/Stack.lean ====
section
/-! DEFINITION. Machine/Stack.lean: PUSH, POP, SPHL (47_stack.md). There is no overflow or underflow check. -/

namespace Sys2Proof.Machine

/-! ## Shared operations -/

/-- PUSH rp (R360). -/
def pushPair (p : StackPair) (s : State) : Result := complete 1 (s.push16 (s.pair p.toPair))

/-- POP rp (R361). -/
def popPair (p : StackPair) (s : State) : Result := complete 1 (s.dropTop.setPair p.toPair s.topOfStack)

/-! ## Meanings -/

/-- POP B (0xC1), R361. -/
def execPopB (s : State) : Result := popPair .bc s

/-- PUSH B (0xC5), R360. -/
def execPushB (s : State) : Result := pushPair .bc s

/-- POP D (0xD1), R361. -/
def execPopD (s : State) : Result := popPair .de s

/-- PUSH D (0xD5), R360. -/
def execPushD (s : State) : Result := pushPair .de s

/-- POP H (0xE1), R361. -/
def execPopH (s : State) : Result := popPair .hl s

/-- PUSH H (0xE5), R360. -/
def execPushH (s : State) : Result := pushPair .hl s

/-- POP PSW (0xF1), R363: flags from the low byte, A from the high byte. -/
def execPopPSW (s : State) : Result :=
  complete 1 { s.dropTop with
    regs := { s.regs with a := highByte s.topOfStack }
    flags := Flags.unpack (lowByte s.topOfStack) }

/-- PUSH PSW (0xF5), R362: A at SP-1, the flag byte at SP-2. -/
def execPushPSW (s : State) : Result := complete 1 (s.push16 (pairOf s.regs.a s.flags.pack))

/-- SPHL (0xF9), R364. -/
def execSphl (s : State) : Result := complete 1 { s with sp := s.regs.hl }

end Sys2Proof.Machine
end

