-- ==== Sys2Proof/Machine/Subroutine.lean ====
section
/-! DEFINITION. Machine/Subroutine.lean: CALL, Ccc, RET, Rcc, RST (46_subroutine.md).
No instruction here writes a flag. -/

namespace Sys2Proof.Machine

/-! ## Shared operations -/

/-- `Push16(next); pc <- target` for an instruction of `len` bytes (R330, R334). -/
def callTo (len : Nat) (target : Word16) (s : State) : Result :=
  jumpTo target (s.push16 (s.pc + BitVec.ofNat 16 len))

/-- Ccc a16 (R331): a false condition pushes nothing. -/
def callWhen (cc : Cond) (a16 : Word16) (s : State) : Result :=
  if s.flags.cond cc then callTo 3 a16 s else complete 3 s

/-- `pc <- Pop16()` (R332). -/
def returnToTop (s : State) : Result := jumpTo s.topOfStack s.dropTop

/-- Rcc (R333): a false condition pops nothing. -/
def returnWhen (cc : Cond) (s : State) : Result :=
  if s.flags.cond cc then returnToTop s else complete 1 s

/-- The vector of RST n (R108): `n * 8`. -/
def restartVector (n : Fin 8) : Word16 := BitVec.ofNat 16 (n.val * 8)

/-- RST n (R334). -/
def restart (n : Fin 8) (s : State) : Result := callTo 1 (restartVector n) s

/-! ## Meanings -/

/-- RNZ (0xC0), R333. -/
def execRnz (s : State) : Result := returnWhen .nz s

/-- CNZ a16 (0xC4), R331. -/
def execCnz (a16 : Word16) (s : State) : Result := callWhen .nz a16 s

/-- RST 0 (0xC7), R334. -/
def execRst0 (s : State) : Result := restart 0 s

/-- RZ (0xC8), R333. -/
def execRz (s : State) : Result := returnWhen .z s

/-- RET (0xC9), R332. -/
def execRet (s : State) : Result := returnToTop s

/-- CZ a16 (0xCC), R331. -/
def execCz (a16 : Word16) (s : State) : Result := callWhen .z a16 s

/-- CALL a16 (0xCD), R330. -/
def execCall (a16 : Word16) (s : State) : Result := callTo 3 a16 s

/-- RST 1 (0xCF), R334. -/
def execRst1 (s : State) : Result := restart 1 s

/-- RNC (0xD0), R333. -/
def execRnc (s : State) : Result := returnWhen .nc s

/-- CNC a16 (0xD4), R331. -/
def execCnc (a16 : Word16) (s : State) : Result := callWhen .nc a16 s

/-- RST 2 (0xD7), R334. -/
def execRst2 (s : State) : Result := restart 2 s

/-- RC (0xD8), R333. -/
def execRc (s : State) : Result := returnWhen .c s

/-- CC a16 (0xDC), R331. -/
def execCc (a16 : Word16) (s : State) : Result := callWhen .c a16 s

/-- RST 3 (0xDF), R334. -/
def execRst3 (s : State) : Result := restart 3 s

/-- RPO (0xE0), R333. -/
def execRpo (s : State) : Result := returnWhen .po s

/-- CPO a16 (0xE4), R331. -/
def execCpo (a16 : Word16) (s : State) : Result := callWhen .po a16 s

/-- RST 4 (0xE7), R334. -/
def execRst4 (s : State) : Result := restart 4 s

/-- RPE (0xE8), R333. -/
def execRpe (s : State) : Result := returnWhen .pe s

/-- CPE a16 (0xEC), R331. -/
def execCpe (a16 : Word16) (s : State) : Result := callWhen .pe a16 s

/-- RST 5 (0xEF), R334. -/
def execRst5 (s : State) : Result := restart 5 s

/-- RP (0xF0), R333. -/
def execRp (s : State) : Result := returnWhen .p s

/-- CP a16 (0xF4), R331. -/
def execCp (a16 : Word16) (s : State) : Result := callWhen .p a16 s

/-- RST 6 (0xF7), R334. -/
def execRst6 (s : State) : Result := restart 6 s

/-- RM (0xF8), R333. -/
def execRm (s : State) : Result := returnWhen .m s

/-- CM a16 (0xFC), R331. -/
def execCm (a16 : Word16) (s : State) : Result := callWhen .m a16 s

/-- RST 7 (0xFF), R334. -/
def execRst7 (s : State) : Result := restart 7 s

end Sys2Proof.Machine
end

