-- ==== Sys2Proof/Machine/Fetch.lean ====
section
/-! DEFINITION. Machine/Fetch.lean: fetching and decoding the instruction at pc (40_dispatch.md rules R141, R142). -/

namespace Sys2Proof.Machine

/-- The opcode byte at pc0 (R141). -/
def State.opcodeByte (s : State) : Byte := s.readByte s.pc

/-- `imm8` of R16. -/
def State.imm8 (s : State) : Byte := s.readByte (s.pc + 1)

/-- `imm16` of R16: the low byte at pc0 + 1, the high byte at pc0 + 2, addresses mod 2^16. -/
def State.imm16 (s : State) : Word16 := pairOf (s.readByte (s.pc + 2)) (s.readByte (s.pc + 1))

/-- The instruction at pc: the opcode byte's descriptor with its operand bytes, fetched whether or not a condition
holds (R142). Reading has no effect (R79), so nothing records that the bytes are read in this order (R83; log
entry 10). -/
def State.fetch (s : State) : Instr :=
  match descriptorOf s.opcodeByte with
  | .bare i => i
  | .withByte k => k s.imm8
  | .withWord k => k s.imm16

end Sys2Proof.Machine
end

