-- ==== Sys2Proof/Machine/Step.lean ====
section
/-! DEFINITION. Machine/Step.lean: the core's one transition (40_dispatch.md rules R140, R149, R150). -/

namespace Sys2Proof.Machine

/-- R150: from Running, fetch, decode and execute one instruction; Halted and Faulted absorb (R149). `exec` itself does
not look at the status (log entry 9). -/
def step (s : State) : Host.Outcome State Fault Refusal :=
  match s.status with
  | .running => exec s.fetch s
  | .halted => .next s
  | .faulted _ _ => .next s

/-- `s` with an instruction loaded where the next step fetches: the three bytes of a table word at pc, pc + 1 and
pc + 2, and the status Running, from which alone a step fetches (R141). It stands for the loader's part (R453;
log entry 8). -/
def State.withFetchWord (s : State) (nbits w : Nat) : State :=
  { s with mem := s.mem.writeBytes s.pc (tableBytes nbits w), status := .running }

end Sys2Proof.Machine
end

