-- ==== Sys2Proof/Machine/Loader.lean ====
section
/-! DEFINITION. Machine/Loader.lean: the launch of a run (70_reset_and_hazards.md rules R450 to R454), the interface of
the loader, whose front end is out of scope (00_scope.md rule R7). -/

namespace Sys2Proof.Machine

/-- What the loader and the open parameters of R10 fix before the first step (log entry 14). -/
structure Launch where
  /-- INIT_PC. -/
  initPc   : Word16
  /-- INIT_REGS: A to L. -/
  initRegs : RegFile
  /-- INIT_REGS: SP. -/
  initSp   : Word16
  /-- INIT_FLAGS. -/
  initFlags : Flags
  /-- INIT_INTE. -/
  initInte : Bool
  /-- LOAD_BASE. -/
  loadBase : Word16
  /-- The program image, "a flat binary blob". -/
  image    : List Byte
  /-- INIT_MEM: the bytes outside the image that do not hold `Memory.unlisted`; of two entries for one address the
  first counts. -/
  initMem  : List (Word16 × Byte)
  /-- RESERVED_POLICY and DAA_MODE. -/
  cfg      : Config
  deriving DecidableEq, Repr

/-- INIT_MEM as a memory. -/
def Launch.memoryBefore (cells : List (Word16 × Byte)) : Memory :=
  cells.foldr (fun c m => m.write c.1 c.2) []

/-- R453: the image is written from LOAD_BASE upward and pc is set to INIT_PC; R454: an image that does not fit is
refused and no run starts. -/
def launch (L : Launch) : Option State :=
  if imageFits L.loadBase L.image then
    some {
      regs := L.initRegs
      sp := L.initSp
      pc := L.initPc
      flags := L.initFlags
      inte := L.initInte
      mem := (Launch.memoryBefore L.initMem).writeBytes L.loadBase L.image
      status := .running
      cfg := L.cfg }
  else none

end Sys2Proof.Machine
end

