-- ==== Sys2Proof/Machine/Run.lean ====
section
/-! DEFINITION. Machine/Run.lean: the status a step returns and runs of many steps (40_dispatch.md rules R140, R144,
R152, R153). -/

namespace Sys2Proof.Machine

/-- The status a step returns (R140). -/
inductive StepStatus
  | continue
  | halted
  | faulted (opcode : Byte) (pc : Word16)
  deriving DecidableEq, Repr

/-- The status a step returns is that of the state it leaves, Running being returned as Continue (R144, R149;
DEDUCED: log entry 17). -/
def State.returned (s : State) : StepStatus :=
  match s.status with
  | .running => .continue
  | .halted => .halted
  | .faulted o p => .faulted o p

/-- `step(s, cfg) -> (s', status)` (R140). The second case does not arise (R148). -/
def stepReturning (s : State) : Option (State × StepStatus) :=
  match step s with
  | .next t => some (t, t.returned)
  | _ => none

/-- `run(s, cfg)` (R152) with at most `n` steps: the first state whose status is terminal, or none if it is not reached
within them. The spec's run has no bound; a run that never ends answers none for every `n` (log entry 12). -/
def run : Nat → State → Option State
  | 0, s => if s.status.isTerminal then some s else none
  | n + 1, s =>
    if s.status.isTerminal then some s
    else match step s with
      | .next t => run n t
      | _ => none

end Sys2Proof.Machine
end

