-- ==== Sys2Proof/Safety.lean ====
section
/-! DEFINITION. Safety.lean: reachable states, safe runs, and the invariant of the machine (40_dispatch.md rules R145,
R146, R153). -/

namespace Sys2Proof.Machine

/-- `Reaches s t`: zero or more steps lead from `s` to `t`. -/
inductive Reaches : State → State → Prop
  | refl (s : State) : Reaches s s
  | step {s t u : State} (first : Reaches s t) (last : Machine.step t = .next u) : Reaches s u

/-- A run from `s` ends well when it reaches Halted (R153). -/
def EndsWell (s : State) : Prop := ∃ t, Reaches s t ∧ t.status = .halted

/-- A run from `s` is safe when it never reaches Faulted (R153: an end, but a failed one). -/
def NeverFaults (s : State) : Prop := ∀ t, Reaches s t → ∀ o p, t.status ≠ .faulted o p

/-- `opcode` raises UnimplementedOpcode under `cfg` (R420): a reserved byte under `RESERVED_POLICY = Fault`, or 0x27
under `DAA_MODE = Fault`. -/
def raisesUnder (cfg : Config) (opcode : Byte) : Prop :=
  (opcode ∈ Instr.reservedTable.map Prod.fst ∧ cfg.reservedPolicy = .fault) ∨
  (opcode = 0x27 ∧ cfg.daaMode = .fault)

/-- The invariant: memory is in canonical form; a Faulted record names the byte pc still addresses, which raises under
the state's parameters (R146); and Halted was entered by the HLT byte before pc (R145). -/
structure State.Inv (s : State) : Prop where
  memory : s.mem.wf
  faulted : ∀ o p, s.status = .faulted o p → p = s.pc ∧ s.readByte s.pc = o ∧ raisesUnder s.cfg o
  halted : s.status = .halted → s.readByte (s.pc - 1) = 0x76

end Sys2Proof.Machine
end

