-- ==== Sys2Proof/Certificates/Slice0/Vocabulary.lean ====
section
/-! DEFINITION. Certificates/Slice0/Vocabulary.lean: the words the statements of Obligations.lean are written in: what
it means to write one register, one pair or one or two bytes and nothing else, the results of the arithmetic classes as
plain arithmetic, and which instructions the summaries of the spec name. -/

namespace Sys2Proof.Claims

open Sys2Proof.Machine

/-! ## Writing one thing and nothing else -/

/-- Register `r` holds `v` in `new`, and every other register is as in `old`. -/
def WritesReg (old new : RegFile) (r : Reg) (v : Byte) : Prop :=
  new.get r = v ∧ ∀ q, q ≠ r → new.get q = old.get q

/-- Pair `p` holds `v` in `t`, and A and the other three of BC, DE, HL and SP are as in `s`. -/
def WritesPair (s t : State) (p : Pair) (v : Word16) : Prop :=
  t.pair p = v ∧ (∀ q, q ≠ p → t.pair q = s.pair q) ∧ t.regs.a = s.regs.a

/-- Address `a` reads `v` in `new`, and every other address reads as in `old`. -/
def StoresByte (old new : Memory) (a : Word16) (v : Byte) : Prop :=
  new.read a = v ∧ ∀ x, x ≠ a → new.read x = old.read x

/-- The low byte of `v` stands at `a` and the high byte at `a + 1` mod 2^16 (R14, R73), and every other address reads as
in `old`. -/
def StoresWord (old new : Memory) (a v : Word16) : Prop :=
  (new.read a).toNat = v.toNat % 256 ∧ (new.read (a + 1)).toNat = v.toNat / 256 ∧
  ∀ x, x ≠ a → x ≠ a + 1 → new.read x = old.read x

/-- `w` is the 2-byte value at `a`: the low byte at `a`, the high byte at `a + 1` mod 2^16 (R14, R73). -/
def WordAt (m : Memory) (a w : Word16) : Prop :=
  w.toNat = (m.read (a + 1)).toNat * 256 + (m.read a).toNat

/-! ## The arithmetic classes of R181 as plain arithmetic on numbers -/

/-- A + v + c: R240, R242. -/
def afterAdd (s : State) (v : Byte) (c : Bool) (len : Nat) : State :=
  let t := s.regs.a.toNat + v.toNat + c.toNat
  { s with
    regs := { s.regs with a := BitVec.ofNat 8 t }
    flags :=
      { z := zero t, s := sign t, p := parity t, cy := decide (t > 0xFF)
        ac := decide (s.regs.a.toNat % 16 + v.toNat % 16 + c.toNat > 0xF) }
    pc := s.pc + BitVec.ofNat 16 len }

/-- The flags of A - v - c: borrow in CY, AC = 0 (R176, R178). The 512 keeps the difference a natural number and does
not change it mod 2^8. -/
def subFlags (a v : Byte) (c : Bool) : Flags :=
  let t := 512 + a.toNat - v.toNat - c.toNat
  { z := zero t, s := sign t, p := parity t, cy := decide (a.toNat < v.toNat + c.toNat), ac := false }

/-- A - v - c: R244, R246. -/
def afterSub (s : State) (v : Byte) (c : Bool) (len : Nat) : State :=
  { s with
    regs := { s.regs with a := BitVec.ofNat 8 (512 + s.regs.a.toNat - v.toNat - c.toNat) }
    flags := subFlags s.regs.a v c
    pc := s.pc + BitVec.ofNat 16 len }

/-- A compared with v: R178; A is not written. -/
def afterCompare (s : State) (v : Byte) (len : Nat) : State :=
  { s with flags := subFlags s.regs.a v false, pc := s.pc + BitVec.ofNat 16 len }

/-- A logical result `t` in A: R179. -/
def afterLogic (s : State) (t : Byte) (len : Nat) : State :=
  { s with
    regs := { s.regs with a := t }
    flags := { z := zero t.toNat, s := sign t.toNat, p := parity t.toNat, cy := false, ac := false }
    pc := s.pc + BitVec.ofNat 16 len }

/-- `t` in A and `cy` in CY, no other flag: R389 to R392. -/
def afterRotate (s : State) (t : Nat) (cy : Bool) : State :=
  { s with
    regs := { s.regs with a := BitVec.ofNat 8 t }
    flags := { s.flags with cy := cy }
    pc := s.pc + 1 }

/-- The flags of INR on the old value `v`: R252. -/
def incFlags (f : Flags) (v : Byte) : Flags :=
  { f with
    z := zero (v.toNat + 1), s := sign (v.toNat + 1), p := parity (v.toNat + 1), ac := decide (v.toNat % 16 = 0xF) }

/-- The flags of DCR on the old value `v`: R254. -/
def decFlags (f : Flags) (v : Byte) : Flags :=
  { f with z := zero (v.toNat + 255), s := sign (v.toNat + 255), p := parity (v.toNat + 255), ac := false }

/-- DAA under `DAA_MODE = Reference`: R260. -/
def afterDaa (s : State) : State :=
  let low := decide (s.regs.a.toNat % 16 > 9) || s.flags.ac
  let high := decide (s.regs.a.toNat > 0x99) || s.flags.cy
  let corr := (if low then 0x06 else 0) + (if high then 0x60 else 0)
  let t := s.regs.a.toNat + corr
  { s with
    regs := { s.regs with a := BitVec.ofNat 8 t }
    flags :=
      { z := zero t, s := sign t, p := parity t, cy := high
        ac := decide (s.regs.a.toNat % 16 + corr % 16 > 0xF) }
    pc := s.pc + 1 }

/-- `x` holds two BCD digits. -/
def IsBcd (x : Byte) : Prop := x.toNat % 16 ≤ 9 ∧ x.toNat / 16 ≤ 9

/-- The decimal number two BCD digits stand for. -/
def decimal (x : Byte) : Nat := x.toNat / 16 * 10 + x.toNat % 16

/-! ## The instructions the spec's summaries name -/

/-- The twelve reserved bytes (R113). -/
def reservedBytes : List Byte := [0x08, 0x10, 0x18, 0x20, 0x28, 0x30, 0x38, 0xCB, 0xD9, 0xDD, 0xED, 0xFD]

/-- `i` is one of the twelve reserved bytes, decoded. -/
def IsReserved (i : Instr) : Prop := ∃ e ∈ Instr.reservedTable, i = e.2

/-- `i` raises UnimplementedOpcode under `cfg` (R420). -/
def Raises (cfg : Config) (i : Instr) : Prop :=
  (IsReserved i ∧ cfg.reservedPolicy = .fault) ∨ (i = .daa ∧ cfg.daaMode = .fault)

/-- The rule of `i` assigns pc when the flags are `f` (R143): a jump, call or return that is taken, PCHL or RST. -/
def AssignsPc (i : Instr) (f : Flags) : Prop :=
  (∃ a, i = .jmp a) ∨ (∃ k a, i = .jumpIf k a ∧ f.cond k = true) ∨ i = .pchl ∨
  (∃ a, i = .call a) ∨ (∃ k a, i = .callIf k a ∧ f.cond k = true) ∨
  i = .ret ∨ (∃ k, i = .returnIf k ∧ f.cond k = true) ∨ (∃ n, i = .rst n)

/-- `i` executed in `s` stores to address `x`: the column "writes" of R76. -/
def StoresAt (i : Instr) (s : State) (x : Word16) : Prop :=
  (((∃ r, i = .movMR r) ∨ (∃ v, i = .mvi .m v) ∨ i = .inr .m ∨ i = .dcr .m) ∧ x = s.regs.hl) ∨
  (∃ p, i = .stax p ∧ x = s.pair p.toPair) ∨
  i = .sta x ∨
  (∃ a, i = .shld a ∧ (x = a ∨ x = a + 1)) ∨
  (i = .xthl ∧ (x = s.sp ∨ x = s.sp + 1)) ∨
  (((∃ p, i = .push p) ∨ i = .pushPSW ∨ (∃ a, i = .call a) ∨ (∃ k a, i = .callIf k a ∧ s.flags.cond k = true) ∨
    (∃ n, i = .rst n)) ∧ (x = s.sp - 2 ∨ x = s.sp - 1))

/-- The instructions that write CY and no other flag: DAD, the rotates, STC, CMC (R181). -/
def WritesCarryOnly (i : Instr) : Prop :=
  (∃ p, i = .dad p) ∨ i = .rlc ∨ i = .rrc ∨ i = .ral ∨ i = .rar ∨ i = .stc ∨ i = .cmc

/-- INR and DCR: every flag but CY (R180). -/
def WritesAllButCarry (i : Instr) : Prop := ∃ o, i = .inr o ∨ i = .dcr o

/-- The instructions that write all five flags (R181). -/
def WritesAllFlags (i : Instr) : Prop :=
  (∃ o, i = .add o ∨ i = .adc o ∨ i = .sub o ∨ i = .sbb o ∨ i = .ana o ∨ i = .xra o ∨ i = .ora o ∨ i = .cmp o) ∨
  (∃ v, i = .adi v ∨ i = .aci v ∨ i = .sui v ∨ i = .sbi v ∨ i = .ani v ∨ i = .xri v ∨ i = .ori v ∨ i = .cpi v) ∨
  i = .daa ∨ i = .popPSW

/-- The instructions that write SP: the row SP of R33. -/
def MayWriteSp (i : Instr) : Prop :=
  (∃ v, i = .lxi .sp v) ∨ i = .inx .sp ∨ i = .dcx .sp ∨ i = .sphl ∨
  (∃ p, i = .push p ∨ i = .pop p) ∨ i = .pushPSW ∨ i = .popPSW ∨
  (∃ a, i = .call a) ∨ (∃ k a, i = .callIf k a) ∨ i = .ret ∨ (∃ k, i = .returnIf k) ∨ (∃ n, i = .rst n)

end Sys2Proof.Claims
end

