-- ==== Sys2Proof/Certificates/Slice0/Obligations.lean ====
section
/-! DEFINITION. Certificates/Slice0/Obligations.lean: the statements for the provers. Each docstring names the rules of
spec/ it formalises; the words it uses are in Vocabulary.lean. -/

open Sys2Proof Sys2Proof.Machine Sys2Proof.Claims

/-! ## Encoding -/

/-- R103, R111, R112: decoding the bytes of any instruction gives it back with every operand, and the bytes after it. -/
def Obligations.DecodeOfEncodeIsTheInstruction : Prop :=
  ∀ (i : Instr) (rest : List Byte), i.wellFormed = true ∧ decode (encode i ++ rest) = .ok (i, rest)

/-- R112: every list of bytes that decodes is the encoding of what it decodes to. -/
def Obligations.DecodedBytesAreTheEncoding : Prop :=
  ∀ (bs rest : List Byte) (i : Instr), decode bs = .ok (i, rest) → bs = encode i ++ rest

/-- R103: words written out bit by bit, one or more of each family. -/
def Obligations.WordsWrittenOutDecode : Prop :=
  decode [0b01111010] = .ok (.mov .a .d, []) ∧
  decode [0b00100001, 0x34, 0x12] = .ok (.lxi .hl 0x1234, []) ∧
  decode [0b00110110, 0xAB] = .ok (.mvi .m 0xAB, []) ∧
  decode [0b00011010] = .ok (.ldax .de, []) ∧
  decode [0b10001110] = .ok (.adc .m, []) ∧
  decode [0b11011110, 0x7F] = .ok (.sbi 0x7F, []) ∧
  decode [0b00111001] = .ok (.dad .sp, []) ∧
  decode [0b10110001] = .ok (.ora (.reg .c), []) ∧
  decode [0b11101010, 0xCD, 0xAB] = .ok (.jumpIf .pe 0xABCD, []) ∧
  decode [0b11011100, 0x00, 0x02] = .ok (.callIf .c 0x0200, []) ∧
  decode [0b11110111] = .ok (.rst 6, []) ∧
  decode [0b11110101] = .ok (.pushPSW, []) ∧
  decode [0b01110110] = .ok (.hlt, []) ∧
  decode [0b11011011, 0x10] = .ok (.inPort 0x10, []) ∧
  decode [0b11101101] = .ok (.reservedED, [])

/-- R110 (and R100, R116): the opcode byte alone fixes the length, 3 for its first list, 2 for its second, else 1. -/
def Obligations.OpcodeByteFixesTheLength : Prop :=
  ∀ (op b1 b2 : Byte) (rest : List Byte), ∃ i,
    let n :=
      if op ∈ ([0x01, 0x11, 0x21, 0x31, 0x22, 0x2A, 0x32, 0x3A, 0xC3, 0xC2, 0xCA, 0xD2, 0xDA, 0xE2, 0xEA, 0xF2, 0xFA,
        0xCD, 0xC4, 0xCC, 0xD4, 0xDC, 0xE4, 0xEC, 0xF4, 0xFC] : List Byte) then 3
      else if op ∈ ([0x06, 0x0E, 0x16, 0x1E, 0x26, 0x2E, 0x36, 0x3E, 0xC6, 0xCE, 0xD6, 0xDE, 0xE6, 0xEE, 0xF6, 0xFE,
        0xD3, 0xDB] : List Byte) then 2
      else 1
    opcodeOf i = op ∧ (encode i).length = n ∧
      decode (op :: b1 :: b2 :: rest) = .ok (i, (op :: b1 :: b2 :: rest).drop n)

/-- R112, R113, R114: exactly the twelve bytes decode to a reserved instruction, each to its own, and 0x76 is HLT. -/
def Obligations.ReservedBytesAreTheTwelve : Prop :=
  Instr.reservedTable.map Prod.fst = reservedBytes ∧
  (∀ op b1 b2 : Byte, ∃ i rest, decode [op, b1, b2] = .ok (i, rest) ∧ (IsReserved i ↔ op ∈ reservedBytes) ∧
    ∀ e ∈ Instr.reservedTable, i = e.2 → op = e.1) ∧
  ∀ b1 b2 : Byte, decode [0x76, b1, b2] = .ok (.hlt, [b1, b2])

/-- R101, log entry 13: bytes that end before the operands of their opcode are rejected by name. -/
def Obligations.MissingOperandIsRejectedByName : Prop :=
  decode [] = .error .noBytes ∧
  ∀ (op : Byte) (bs : List Byte), bs.length + 1 < opcodeLength op → decode (op :: bs) = .error (.operandMissing op)

/-! ## The step -/

/-- R141, R142, R150: from Running, a step executes the instruction the bytes at pc, pc + 1 and pc + 2 (mod 2^16)
decode to, on the state as it stands; the meanings move pc themselves. -/
def Obligations.StepRunsTheDecodedInstruction : Prop :=
  ∀ (s : State) (i : Instr) (rest : List Byte), s.status = .running →
    decode [s.readByte s.pc, s.readByte (s.pc + 1), s.readByte (s.pc + 2)] = .ok (i, rest) → step s = exec i s

/-- R149: the terminal states absorb. -/
def Obligations.TerminalStatesAbsorb : Prop :=
  (∀ s : State, s.status = .halted → step s = .next s ∧ stepReturning s = some (s, .halted)) ∧
  (∀ (s : State) (o : Byte) (p : Word16), s.status = .faulted o p →
    step s = .next s ∧ stepReturning s = some (s, .faulted o p)) ∧
  ∀ s t : State, step s = .next t → s.status.isTerminal = true → t.status.isTerminal = true

/-- R144: the status after, and returned by, a step from Running, by the opcode byte at pc. -/
def Obligations.StatusAfterEveryStep : Prop :=
  ∀ s : State, s.status = .running → ∃ t r, step s = .next t ∧ stepReturning s = some (t, r) ∧
    (s.readByte s.pc = 0x76 → t.status = .halted ∧ r = .halted) ∧
    (((s.readByte s.pc ∈ reservedBytes ∧ s.cfg.reservedPolicy = .fault) ∨
        (s.readByte s.pc = 0x27 ∧ s.cfg.daaMode = .fault)) →
      t.status = .faulted (s.readByte s.pc) s.pc ∧ r = .faulted (s.readByte s.pc) s.pc) ∧
    (s.readByte s.pc ≠ 0x76 →
      ¬((s.readByte s.pc ∈ reservedBytes ∧ s.cfg.reservedPolicy = .fault) ∨
        (s.readByte s.pc = 0x27 ∧ s.cfg.daaMode = .fault)) →
      t.status = .running ∧ r = .continue)

/-- R146: UnimplementedOpcode changes the status and nothing else; pc stays at the offending byte. -/
def Obligations.TrapChangesOnlyTheStatus : Prop :=
  ∀ s : State, s.status = .running →
    ((s.readByte s.pc ∈ reservedBytes ∧ s.cfg.reservedPolicy = .fault) ∨
      (s.readByte s.pc = 0x27 ∧ s.cfg.daaMode = .fault)) →
    step s = .next { s with status := .faulted (s.readByte s.pc) s.pc }

/-- R43, R145, R146: the invariant of Safety.lean (canonical memory; a Faulted record names the byte pc addresses, one
that raises; Halted stands after a HLT byte) is kept by every step from every state that meets it. -/
def Obligations.EveryStepKeepsTheInvariant : Prop :=
  ∀ s t : State, s.Inv → step s = .next t → t.Inv

/-- The invariant holds at reset. -/
def Obligations.ResetMeetsTheInvariant : Prop := State.reset.Inv

/-- R49, R451 for pc, the status and the parameters; log entries 1 to 5 (the model's choice) for the rest; and reset is
the launch of an empty image with these values. -/
def Obligations.ResetState : Prop :=
  State.reset.pc = 0x0000 ∧ State.reset.status = .running ∧
  State.reset.cfg = { reservedPolicy := .fault, daaMode := .reference } ∧
  (∀ r, State.reset.reg r = 0x00) ∧ State.reset.sp = 0x0000 ∧
  State.reset.flags = { z := false, s := false, p := false, cy := false, ac := false } ∧
  State.reset.inte = false ∧ (∀ a, State.reset.readByte a = 0x00) ∧
  launch { initPc := 0x0000, initRegs := State.reset.regs, initSp := 0x0000, initFlags := State.reset.flags,
           initInte := false, loadBase := 0x0000, image := [], initMem := [], cfg := .default } = some State.reset

/-- R450, R453, R454: a launch whose image fits starts with the image at LOAD_BASE upward, every other byte as INIT_MEM
gives it, pc at INIT_PC, status Running and every other field at its parameter; one that does not fit starts no run. -/
def Obligations.LaunchPlacesTheImageOrRefusesIt : Prop :=
  ∀ L : Launch,
    (L.loadBase.toNat + L.image.length > 65536 → launch L = none) ∧
    (L.loadBase.toNat + L.image.length ≤ 65536 → ∃ s, launch L = some s ∧
      s.pc = L.initPc ∧ s.regs = L.initRegs ∧ s.sp = L.initSp ∧ s.flags = L.initFlags ∧ s.inte = L.initInte ∧
      s.status = .running ∧ s.cfg = L.cfg ∧ s.mem.wf ∧
      (∀ (k : Nat) (h : k < L.image.length), s.readByte (L.loadBase + BitVec.ofNat 16 k) = L.image[k]) ∧
      ∀ a : Word16, (a.toNat < L.loadBase.toNat ∨ L.loadBase.toNat + L.image.length ≤ a.toNat) →
        s.readByte a = (L.initMem.lookup a).getD Memory.unlisted)

/-! ## Rules of the whole machine -/

/-- R143, R423, log entry 7, decision D13: every instruction answers a next state from every state, and unless its rule
assigns pc there (or it raises), pc has advanced by its encoded length mod 2^16. R423 says, as derived, that the 244
defined instructions complete; that a reserved byte or DAA that raises answers a next state too is the model's reading
(DEDUCED: log entry 7), and that pc then stays at the byte is the spec's choice (decision D13). -/
def Obligations.EveryInstructionCompletesAndAdvances : Prop :=
  ∀ (i : Instr) (s : State), ∃ t, exec i s = .next t ∧
    (¬AssignsPc i s.flags → ¬Raises s.cfg i → t.pc = s.pc + BitVec.ofNat 16 (encode i).length)

/-- R76: a byte that an instruction changes is one the table lets it write. -/
def Obligations.OnlyTheTableOfStoresWritesMemory : Prop :=
  ∀ (i : Instr) (s t : State) (x : Word16), exec i s = .next t → t.readByte x ≠ s.readByte x → StoresAt i s x

/-- R39, R181: an instruction leaves every flag its class does not write. -/
def Obligations.UntouchedFlagsKeepTheirValue : Prop :=
  ∀ (i : Instr) (s t : State), exec i s = .next t →
    (¬WritesCarryOnly i → ¬WritesAllButCarry i → ¬WritesAllFlags i → t.flags = s.flags) ∧
    (WritesCarryOnly i → t.flags = { s.flags with cy := t.flags.cy }) ∧
    (WritesAllButCarry i → t.flags.cy = s.flags.cy)

/-- R41: INTE is written by EI and DI alone. -/
def Obligations.OnlyEiAndDiWriteInte : Prop :=
  ∀ (i : Instr) (s t : State), exec i s = .next t → t.inte ≠ s.inte →
    (i = .ei ∧ t.inte = true) ∨ (i = .di ∧ t.inte = false)

/-- R33, row SP: only these instructions write the stack pointer, and a conditional one only when it is taken. -/
def Obligations.OnlyTheTableOfRegistersWritesSp : Prop :=
  ∀ (i : Instr) (s t : State), exec i s = .next t → t.sp ≠ s.sp →
    MayWriteSp i ∧ ∀ k a, (i = .callIf k a ∨ i = .returnIf k) → s.flags.cond k = true

/-- R47, R115, R420 (log entry 6): no step changes the parameters, and only a reserved byte or DAA depends on them. -/
def Obligations.ParametersAreFixedAndSeldomRead : Prop :=
  (∀ s t : State, step s = .next t → t.cfg = s.cfg) ∧
  ∀ (i : Instr) (s : State) (cfg : Config), ¬IsReserved i → i ≠ .daa →
    ∃ t, exec i s = .next t ∧ exec i { s with cfg := cfg } = .next { t with cfg := cfg }

/-- R152, R153 (log entry 12: the model's run is bounded): the bounded runs find exactly the terminal states that steps
reach. -/
def Obligations.RunFindsTheReachableTerminalState : Prop :=
  ∀ s t : State, (∃ n, run n s = some t) ↔ (Reaches s t ∧ t.status.isTerminal = true)

/-- R86: a store to the next instruction's address is what the next fetch reads. -/
def Obligations.StoreIsSeenByTheNextFetch : Prop :=
  (∀ s : State, ∃ t, exec (.sta (s.pc + 3)) s = .next t ∧ t.readByte t.pc = s.regs.a) ∧
  ∀ (s : State) (r : Reg), s.regs.hl = s.pc + 1 → ∃ t, exec (.movMR r) s = .next t ∧ t.readByte t.pc = s.reg r

/-! ## The flag unit -/

/-- R171, R172, R173: for every number, the low 8 bits alone count. -/
def Obligations.ZeroSignParityOfAnyNumber : Prop :=
  ∀ v : Nat,
    (zero v = true ↔ v % 256 = 0) ∧
    (sign v = true ↔ 128 ≤ v % 256) ∧
    (parity v = true ↔
      (v % 2 + v / 2 % 2 + v / 4 % 2 + v / 8 % 2 + v / 16 % 2 + v / 32 % 2 + v / 64 % 2 + v / 128 % 2) % 2 = 0)

/-- R106, R182: the eight condition codes and what each tests. -/
def Obligations.ConditionCodesTestTheirFlags : Prop :=
  ∀ f : Flags,
    (Cond.code .nz = 0b000 ∧ f.cond .nz = !f.z) ∧ (Cond.code .z = 0b001 ∧ f.cond .z = f.z) ∧
    (Cond.code .nc = 0b010 ∧ f.cond .nc = !f.cy) ∧ (Cond.code .c = 0b011 ∧ f.cond .c = f.cy) ∧
    (Cond.code .po = 0b100 ∧ f.cond .po = !f.p) ∧ (Cond.code .pe = 0b101 ∧ f.cond .pe = f.p) ∧
    (Cond.code .p = 0b110 ∧ f.cond .p = !f.s) ∧ (Cond.code .m = 0b111 ∧ f.cond .m = f.s)

/-- R40: the packed flag byte, bit by bit, its bits 7:5 zero on packing and ignored on unpacking (the spec's choice,
decision D7). -/
def Obligations.PackedFlagByteLayout : Prop :=
  (∀ f : Flags,
    f.pack.getLsbD 0 = f.z ∧ f.pack.getLsbD 1 = f.s ∧ f.pack.getLsbD 2 = f.p ∧ f.pack.getLsbD 3 = f.cy ∧
    f.pack.getLsbD 4 = f.ac ∧ f.pack.toNat < 32 ∧ Flags.unpack f.pack = f) ∧
  ∀ b : Byte, (Flags.unpack b).pack = b &&& 0x1F

/-! ## Data movement -/

/-- R31: the pairs are views of their two registers, the first named high; writing a pair writes both. -/
def Obligations.PairsAreViewsOfRegisters : Prop :=
  ∀ (s : State) (v : Word16),
    ((s.pair .bc).toNat = s.regs.b.toNat * 256 + s.regs.c.toNat ∧
      (s.pair .de).toNat = s.regs.d.toNat * 256 + s.regs.e.toNat ∧
      (s.pair .hl).toNat = s.regs.h.toNat * 256 + s.regs.l.toNat) ∧
    (s.setPair .bc v).regs = { s.regs with b := BitVec.ofNat 8 (v.toNat / 256), c := BitVec.ofNat 8 v.toNat } ∧
    (s.setPair .de v).regs = { s.regs with d := BitVec.ofNat 8 (v.toNat / 256), e := BitVec.ofNat 8 v.toNat } ∧
    (s.setPair .hl v).regs = { s.regs with h := BitVec.ofNat 8 (v.toNat / 256), l := BitVec.ofNat 8 v.toNat } ∧
    (s.setPair .sp v).regs = s.regs

/-- R200, R203: the words of MOV r,r' and MVI r,d8, and that each writes one register. -/
def Obligations.RegisterMovesWriteOneRegister : Prop :=
  (∀ (dst src : Reg) (s : State), encode (.mov dst src) = [0b01#2 ++ dst.code ++ src.code] ∧ ∃ rf,
    exec (.mov dst src) s = .next { s with regs := rf, pc := s.pc + 1 } ∧ WritesReg s.regs rf dst (s.regs.get src)) ∧
  ∀ (dst : Reg) (d8 : Byte) (s : State), encode (.mvi (.reg dst) d8) = [0b00#2 ++ dst.code ++ 0b110#3, d8] ∧ ∃ rf,
    exec (.mvi (.reg dst) d8) s = .next { s with regs := rf, pc := s.pc + 2 } ∧ WritesReg s.regs rf dst d8

/-- R201, R206, R208: the words of MOV r,M, LDAX and LDA, and that each loads one byte into one register and stores
nothing. -/
def Obligations.ByteLoadsWriteOneRegister : Prop :=
  (∀ (dst : Reg) (s : State), encode (.movRM dst) = [0b01#2 ++ dst.code ++ 0b110#3] ∧ ∃ rf,
    exec (.movRM dst) s = .next { s with regs := rf, pc := s.pc + 1 } ∧
    WritesReg s.regs rf dst (s.readByte s.regs.hl)) ∧
  (∀ (p : PointerPair) (s : State), encode (.ldax p) = [0b000#3 ++ p.code ++ 0b1010#4] ∧
    exec (.ldax p) s = .next { s with regs := { s.regs with a := s.readByte (s.pair p.toPair) }, pc := s.pc + 1 }) ∧
  ∀ (a16 : Word16) (s : State), encode (.lda a16) = [0b00111010, lowByte a16, highByte a16] ∧
    exec (.lda a16) s = .next { s with regs := { s.regs with a := s.readByte a16 }, pc := s.pc + 3 }

/-- R202, R204, R207, R209: the words of MOV M,r, MVI M,d8, STAX and STA, and that each stores one byte and changes
nothing else. -/
def Obligations.ByteStoresWriteOneByte : Prop :=
  (∀ (src : Reg) (s : State), encode (.movMR src) = [0b01110#5 ++ src.code] ∧ ∃ m,
    exec (.movMR src) s = .next { s with mem := m, pc := s.pc + 1 } ∧
    StoresByte s.mem m s.regs.hl (s.regs.get src)) ∧
  (∀ (d8 : Byte) (s : State), encode (.mvi .m d8) = [0b00110110, d8] ∧ ∃ m,
    exec (.mvi .m d8) s = .next { s with mem := m, pc := s.pc + 2 } ∧ StoresByte s.mem m s.regs.hl d8) ∧
  (∀ (p : PointerPair) (s : State), encode (.stax p) = [0b000#3 ++ p.code ++ 0b0010#4] ∧ ∃ m,
    exec (.stax p) s = .next { s with mem := m, pc := s.pc + 1 } ∧
    StoresByte s.mem m (s.pair p.toPair) s.regs.a) ∧
  ∀ (a16 : Word16) (s : State), encode (.sta a16) = [0b00110010, lowByte a16, highByte a16] ∧ ∃ m,
    exec (.sta a16) s = .next { s with mem := m, pc := s.pc + 3 } ∧ StoresByte s.mem m a16 s.regs.a

/-- R205: the word of LXI; it writes one of BC, DE, HL and SP (that its operand is stored low byte first is the spec's
choice, decision D6). -/
def Obligations.LxiWritesOnePair : Prop :=
  ∀ (p : Pair) (d16 : Word16) (s : State),
    encode (.lxi p d16) = [0b00#2 ++ p.code ++ 0b0001#4, lowByte d16, highByte d16] ∧ ∃ t,
    exec (.lxi p d16) s = .next t ∧ WritesPair s t p d16 ∧
    t = { s with regs := t.regs, sp := t.sp, pc := s.pc + 3 }

/-- R210, R211: LHLD and SHLD, L at a16 and H at a16 + 1 mod 2^16 (the byte order is the spec's choice, decision D6). -/
def Obligations.LhldAndShldMoveHl : Prop :=
  (∀ (a16 : Word16) (s : State),
    exec (.lhld a16) s =
      .next { s with regs := { s.regs with l := s.readByte a16, h := s.readByte (a16 + 1) }, pc := s.pc + 3 }) ∧
  ∀ (a16 : Word16) (s : State), ∃ m,
    exec (.shld a16) s = .next { s with mem := m, pc := s.pc + 3 } ∧
    m.read a16 = s.regs.l ∧ m.read (a16 + 1) = s.regs.h ∧
    ∀ x, x ≠ a16 → x ≠ a16 + 1 → m.read x = s.mem.read x

/-- R212, R364: the words of XCHG and SPHL, XCHG exchanges HL and DE, and SPHL copies HL to SP. -/
def Obligations.XchgAndSphlMoveHl : Prop :=
  encode .xchg = [0b11101011] ∧ encode .sphl = [0b11111001] ∧ ∀ s : State,
    exec .xchg s = .next { s with
      regs := { s.regs with h := s.regs.d, l := s.regs.e, d := s.regs.h, e := s.regs.l }, pc := s.pc + 1 } ∧
    exec .sphl s = .next { s with sp := s.pair .hl, pc := s.pc + 1 }

/-- R213: the word of XTHL; it exchanges L with the byte at SP and H with the byte at SP + 1; SP is not changed. -/
def Obligations.XthlExchangesHlAndTheStackTop : Prop :=
  encode .xthl = [0b11100011] ∧ ∀ s : State, ∃ m,
    exec .xthl s = .next { s with
      regs := { s.regs with l := s.readByte s.sp, h := s.readByte (s.sp + 1) }, mem := m, pc := s.pc + 1 } ∧
    m.read s.sp = s.regs.l ∧ m.read (s.sp + 1) = s.regs.h ∧
    ∀ x, x ≠ s.sp → x ≠ s.sp + 1 → m.read x = s.mem.read x

/-! ## Arithmetic -/

/-- R240, R241, R248: the words, results and flags of ADD r, ADD M and ADI. -/
def Obligations.AddResultAndFlags : Prop :=
  (∀ (o : Operand8) (s : State), encode (.add o) = [0b10000#5 ++ o.code] ∧
    exec (.add o) s = .next (afterAdd s (s.operand8 o) false 1)) ∧
  ∀ (d8 : Byte) (s : State), encode (.adi d8) = [0b11000110, d8] ∧
    exec (.adi d8) s = .next (afterAdd s d8 false 2)

/-- R242, R243, R249: ADC r, ADC M and ACI; that the carry-in enters AC is the spec's choice (decision D4). -/
def Obligations.AddWithCarryResultAndFlags : Prop :=
  (∀ (o : Operand8) (s : State), exec (.adc o) s = .next (afterAdd s (s.operand8 o) s.flags.cy 1)) ∧
  ∀ (d8 : Byte) (s : State), exec (.aci d8) s = .next (afterAdd s d8 s.flags.cy 2)

/-- R244, R245, R250: SUB r, SUB M and SUI; that CY is the borrow is the spec's choice (decision D3). -/
def Obligations.SubtractResultAndFlags : Prop :=
  (∀ (o : Operand8) (s : State), exec (.sub o) s = .next (afterSub s (s.operand8 o) false 1)) ∧
  ∀ (d8 : Byte) (s : State), exec (.sui d8) s = .next (afterSub s d8 false 2)

/-- R246, R247, R251: SBB r, SBB M and SBI; that CY is the borrow is the spec's choice (decision D3). -/
def Obligations.SubtractWithBorrowResultAndFlags : Prop :=
  (∀ (o : Operand8) (s : State), exec (.sbb o) s = .next (afterSub s (s.operand8 o) s.flags.cy 1)) ∧
  ∀ (d8 : Byte) (s : State), exec (.sbi d8) s = .next (afterSub s d8 s.flags.cy 2)

/-- R252, R253: the words, results and flags of INR r and INR M; CY is kept. -/
def Obligations.IncrementResultAndFlags : Prop :=
  (∀ (r : Reg) (s : State), encode (.inr (.reg r)) = [0b00#2 ++ r.code ++ 0b100#3] ∧ ∃ rf,
    exec (.inr (.reg r)) s = .next { s with regs := rf, flags := incFlags s.flags (s.regs.get r), pc := s.pc + 1 } ∧
    WritesReg s.regs rf r (BitVec.ofNat 8 ((s.regs.get r).toNat + 1))) ∧
  encode (.inr .m) = [0b00110100] ∧ ∀ s : State, ∃ m,
    exec (.inr .m) s = .next { s with mem := m, flags := incFlags s.flags (s.readByte s.regs.hl), pc := s.pc + 1 } ∧
    StoresByte s.mem m s.regs.hl (BitVec.ofNat 8 ((s.readByte s.regs.hl).toNat + 1))

/-- R254, R255: DCR r and DCR M; CY is kept, and that AC is 0 is the spec's choice (decision D5). -/
def Obligations.DecrementResultAndFlags : Prop :=
  (∀ (r : Reg) (s : State), ∃ rf,
    exec (.dcr (.reg r)) s = .next { s with regs := rf, flags := decFlags s.flags (s.regs.get r), pc := s.pc + 1 } ∧
    WritesReg s.regs rf r (BitVec.ofNat 8 ((s.regs.get r).toNat + 255))) ∧
  ∀ s : State, ∃ m,
    exec (.dcr .m) s = .next { s with mem := m, flags := decFlags s.flags (s.readByte s.regs.hl), pc := s.pc + 1 } ∧
    StoresByte s.mem m s.regs.hl (BitVec.ofNat 8 ((s.readByte s.regs.hl).toNat + 255))

/-- R256, R257: the words of INX and DCX; they write one pair mod 2^16 and no flag. -/
def Obligations.InxAndDcxWrapWithoutFlags : Prop :=
  (∀ (p : Pair) (s : State), encode (.inx p) = [0b00#2 ++ p.code ++ 0b0011#4] ∧ ∃ t,
    exec (.inx p) s = .next t ∧ WritesPair s t p (BitVec.ofNat 16 ((s.pair p).toNat + 1)) ∧
    t = { s with regs := t.regs, sp := t.sp, pc := s.pc + 1 }) ∧
  ∀ (p : Pair) (s : State), encode (.dcx p) = [0b00#2 ++ p.code ++ 0b1011#4] ∧ ∃ t,
    exec (.dcx p) s = .next t ∧ WritesPair s t p (BitVec.ofNat 16 ((s.pair p).toNat + 65535)) ∧
    t = { s with regs := t.regs, sp := t.sp, pc := s.pc + 1 }

/-- R258: the word of DAD; it writes HL and CY. -/
def Obligations.DadAddsIntoHl : Prop :=
  ∀ (p : Pair) (s : State), encode (.dad p) = [0b00#2 ++ p.code ++ 0b1001#4] ∧ ∃ t,
    exec (.dad p) s = .next t ∧
    WritesPair s t .hl (BitVec.ofNat 16 ((s.pair .hl).toNat + (s.pair p).toNat)) ∧
    t = { s with
      regs := t.regs
      flags := { s.flags with cy := decide ((s.pair .hl).toNat + (s.pair p).toNat > 0xFFFF) }
      pc := s.pc + 1 }

/-- R260, R262: DAA in its two modes (its inclusion and the modes are the spec's choice, decision D2). -/
def Obligations.DaaAdjustsOrRaises : Prop :=
  ∀ s : State,
    (s.cfg.daaMode = .reference → exec .daa s = .next (afterDaa s)) ∧
    (s.cfg.daaMode = .fault → exec .daa s = .next { s with status := .faulted 0x27 s.pc })

/-- R261: DAA after ADD or ADC of packed BCD leaves the decimal sum mod 100, with CY set at 100 or more. -/
def Obligations.DaaGivesTheDecimalSum : Prop :=
  ∀ (o : Operand8) (s : State), s.cfg.daaMode = .reference → IsBcd s.regs.a → IsBcd (s.operand8 o) →
    (∃ t u, exec (.add o) s = .next t ∧ exec .daa t = .next u ∧ IsBcd u.regs.a ∧
      decimal u.regs.a = (decimal s.regs.a + decimal (s.operand8 o)) % 100 ∧
      u.flags.cy = decide (decimal s.regs.a + decimal (s.operand8 o) ≥ 100)) ∧
    ∃ t u, exec (.adc o) s = .next t ∧ exec .daa t = .next u ∧ IsBcd u.regs.a ∧
      decimal u.regs.a = (decimal s.regs.a + decimal (s.operand8 o) + s.flags.cy.toNat) % 100 ∧
      u.flags.cy = decide (decimal s.regs.a + decimal (s.operand8 o) + s.flags.cy.toNat ≥ 100)

/-! ## Logic and compare -/

/-- R179, R280 to R285, R288 to R290: the words, results and flags of AND, XOR and OR; CY and AC are cleared. -/
def Obligations.LogicResultAndFlags : Prop :=
  (∀ (o : Operand8) (s : State),
    encode (.ana o) = [0b10100#5 ++ o.code] ∧ encode (.xra o) = [0b10101#5 ++ o.code] ∧
    encode (.ora o) = [0b10110#5 ++ o.code] ∧
    exec (.ana o) s = .next (afterLogic s (s.regs.a &&& s.operand8 o) 1) ∧
    exec (.xra o) s = .next (afterLogic s (s.regs.a ^^^ s.operand8 o) 1) ∧
    exec (.ora o) s = .next (afterLogic s (s.regs.a ||| s.operand8 o) 1)) ∧
  ∀ (d8 : Byte) (s : State),
    encode (.ani d8) = [0b11100110, d8] ∧ encode (.xri d8) = [0b11101110, d8] ∧ encode (.ori d8) = [0b11110110, d8] ∧
    exec (.ani d8) s = .next (afterLogic s (s.regs.a &&& d8) 2) ∧
    exec (.xri d8) s = .next (afterLogic s (s.regs.a ^^^ d8) 2) ∧
    exec (.ori d8) s = .next (afterLogic s (s.regs.a ||| d8) 2)

/-- R178, R286, R287, R291: the words of CMP and CPI; compare writes the flags of the difference and
not A; Z says equal, CY says less. -/
def Obligations.CompareWritesFlagsOnly : Prop :=
  (∀ (o : Operand8) (s : State), encode (.cmp o) = [0b10111#5 ++ o.code] ∧
    exec (.cmp o) s = .next (afterCompare s (s.operand8 o) 1)) ∧
  (∀ (d8 : Byte) (s : State), encode (.cpi d8) = [0b11111110, d8] ∧
    exec (.cpi d8) s = .next (afterCompare s d8 2)) ∧
  ∀ a v : Byte, ((subFlags a v false).z = true ↔ a = v) ∧ ((subFlags a v false).cy = true ↔ a.toNat < v.toNat)

/-! ## Branches, subroutine linkage, stack -/

/-- R311, R312: the words of Jcc and PCHL; they change pc and nothing else, Jcc to its target when the condition holds
and past its three bytes when it does not. -/
def Obligations.ConditionalJumpsAndPchlChangeOnlyPc : Prop :=
  (∀ (k : Cond) (a16 : Word16) (s : State),
    encode (.jumpIf k a16) = [0b11#2 ++ k.code ++ 0b010#3, lowByte a16, highByte a16] ∧
    (s.flags.cond k = true → exec (.jumpIf k a16) s = .next { s with pc := a16 }) ∧
    (s.flags.cond k = false → exec (.jumpIf k a16) s = .next { s with pc := s.pc + 3 })) ∧
  encode .pchl = [0b11101001] ∧ ∀ s : State, ∃ w, exec .pchl s = .next { s with pc := w } ∧
    w.toNat = s.regs.h.toNat * 256 + s.regs.l.toNat

/-- R310, R330: JMP changes pc alone; CALL pushes the address after its three bytes and jumps (that an operand is stored
low byte first is the spec's choice, decision D6). -/
def Obligations.JmpAndCallGoToTheirOperand : Prop :=
  (∀ (a16 : Word16) (s : State), encode (.jmp a16) = [0b11000011, lowByte a16, highByte a16] ∧
    exec (.jmp a16) s = .next { s with pc := a16 }) ∧
  ∀ (a16 : Word16) (s : State), encode (.call a16) = [0b11001101, lowByte a16, highByte a16] ∧ ∃ m,
    exec (.call a16) s = .next { s with sp := s.sp - 2, mem := m, pc := a16 } ∧
    StoresWord s.mem m (s.sp - 2) (s.pc + 3)

/-- R331: the word of Ccc; when its condition holds it pushes the address after its three bytes and jumps, and otherwise
it moves past them and writes nothing else. -/
def Obligations.ConditionalCallsPushTheReturnAddress : Prop :=
  ∀ (k : Cond) (a16 : Word16) (s : State),
    encode (.callIf k a16) = [0b11#2 ++ k.code ++ 0b100#3, lowByte a16, highByte a16] ∧
    (s.flags.cond k = true → ∃ m,
      exec (.callIf k a16) s = .next { s with sp := s.sp - 2, mem := m, pc := a16 } ∧
      StoresWord s.mem m (s.sp - 2) (s.pc + 3)) ∧
    (s.flags.cond k = false → exec (.callIf k a16) s = .next { s with pc := s.pc + 3 })

/-- R332, R333: the words of RET and Rcc; RET, and Rcc when its condition holds, pop pc; Rcc otherwise falls through. -/
def Obligations.ReturnsPopPc : Prop :=
  (encode .ret = [0b11001001] ∧ ∀ s : State, ∃ w,
    exec .ret s = .next { s with sp := s.sp + 2, pc := w } ∧ WordAt s.mem s.sp w) ∧
  ∀ (k : Cond) (s : State), encode (.returnIf k) = [0b11#2 ++ k.code ++ 0b000#3] ∧
    (s.flags.cond k = true → ∃ w,
      exec (.returnIf k) s = .next { s with sp := s.sp + 2, pc := w } ∧ WordAt s.mem s.sp w) ∧
    (s.flags.cond k = false → exec (.returnIf k) s = .next { s with pc := s.pc + 1 })

/-- R334, R108: the word of RST n; it pushes the address after it and jumps to 8n. -/
def Obligations.RestartCallsItsVector : Prop :=
  ∀ (n : Fin 8) (s : State), encode (.rst n) = [0b11#2 ++ BitVec.ofNat 3 n.val ++ 0b111#3] ∧ ∃ m,
    exec (.rst n) s = .next { s with sp := s.sp - 2, mem := m, pc := BitVec.ofNat 16 (8 * n.val) } ∧
    StoresWord s.mem m (s.sp - 2) (s.pc + 1)

/-- R360, R361: the words of PUSH and POP, and what they move, of BC, DE and HL. -/
def Obligations.PushAndPopMoveOnePair : Prop :=
  (∀ (p : StackPair) (s : State), encode (.push p) = [0b11#2 ++ p.code ++ 0b0101#4] ∧ ∃ m,
    exec (.push p) s = .next { s with sp := s.sp - 2, mem := m, pc := s.pc + 1 } ∧
    StoresWord s.mem m (s.sp - 2) (s.pair p.toPair)) ∧
  ∀ (p : StackPair) (s : State), encode (.pop p) = [0b11#2 ++ p.code ++ 0b0001#4] ∧ ∃ t,
    exec (.pop p) s = .next t ∧ WordAt s.mem s.sp (t.pair p.toPair) ∧
    (∀ q, q ≠ p.toPair → q ≠ .sp → t.pair q = s.pair q) ∧ t.regs.a = s.regs.a ∧
    t = { s with regs := t.regs, sp := s.sp + 2, pc := s.pc + 1 }

/-- R362, R363: PUSH PSW and POP PSW (bits 7:5 of the flag byte are the spec's choice, decision D7). -/
def Obligations.PswMovesAAndFlags : Prop :=
  (∀ s : State, ∃ m,
    exec .pushPSW s = .next { s with sp := s.sp - 2, mem := m, pc := s.pc + 1 } ∧
    StoresWord s.mem m (s.sp - 2) (BitVec.ofNat 16 (s.regs.a.toNat * 256 + s.flags.z.toNat + 2 * s.flags.s.toNat +
      4 * s.flags.p.toNat + 8 * s.flags.cy.toNat + 16 * s.flags.ac.toNat))) ∧
  ∀ s : State,
    let b := s.readByte s.sp
    exec .popPSW s = .next { s with
      regs := { s.regs with a := s.readByte (s.sp + 1) }
      flags := { z := b.getLsbD 0, s := b.getLsbD 1, p := b.getLsbD 2, cy := b.getLsbD 3, ac := b.getLsbD 4 }
      sp := s.sp + 2
      pc := s.pc + 1 }

/-- R365: push then pop restores the pair, SP and the flags, for every SP; a pop of another pair moves the value; and
PUSH PSW then POP PSW restores A and the flags whatever they were set to in between. -/
def Obligations.StackRoundTrips : Prop :=
  (∀ (p q : StackPair) (s : State), ∃ t u,
    exec (.push p) s = .next t ∧ exec (.pop q) t = .next u ∧
    u.pair q.toPair = s.pair p.toPair ∧ u.sp = s.sp ∧ u.flags = s.flags ∧ (q = p → u.regs = s.regs)) ∧
  ∀ s : State, ∃ t, exec .pushPSW s = .next t ∧
    ∀ (a : Byte) (f : Flags), ∃ u,
      exec .popPSW { t with regs := { t.regs with a := a }, flags := f } = .next u ∧
      u.regs = s.regs ∧ u.flags = s.flags ∧ u.sp = s.sp

/-- R335: a call (or RST) and then a return, from any state that has SP and the two stack bytes as the call left them,
restores pc to the address after the call and SP to its value before. -/
def Obligations.CallThenReturn : Prop :=
  (∀ (a16 : Word16) (s : State), ∃ t, exec (.call a16) s = .next t ∧
    ∀ t' : State, t'.sp = t.sp → t'.readByte t.sp = t.readByte t.sp →
      t'.readByte (t.sp + 1) = t.readByte (t.sp + 1) →
      ∃ u, exec .ret t' = .next u ∧ u.pc = s.pc + 3 ∧ u.sp = s.sp) ∧
  ∀ (n : Fin 8) (s : State), ∃ t, exec (.rst n) s = .next t ∧
    ∀ t' : State, t'.sp = t.sp → t'.readByte t.sp = t.readByte t.sp →
      t'.readByte (t.sp + 1) = t.readByte (t.sp + 1) →
      ∃ u, exec .ret t' = .next u ∧ u.pc = s.pc + 1 ∧ u.sp = s.sp

/-! ## Control, rotates, ports, reserved bytes -/

/-- R380: HLT moves pc past itself and makes the status Halted; nothing else changes. -/
def Obligations.HltHalts : Prop :=
  ∀ s : State, exec .hlt s = .next { s with pc := s.pc + 1, status := .halted }

/-- R384, R385: EI and DI. -/
def Obligations.EiAndDiWriteInte : Prop :=
  ∀ s : State, exec .ei s = .next { s with inte := true, pc := s.pc + 1 } ∧
    exec .di s = .next { s with inte := false, pc := s.pc + 1 }

/-- R386, R387, R388, R393: the words and effects of CMA, CMC, STC and NOP. -/
def Obligations.ComplementSetCarryAndNop : Prop :=
  encode .cma = [0b00101111] ∧ encode .cmc = [0b00111111] ∧ encode .stc = [0b00110111] ∧ encode .nop = [0b00000000] ∧
  ∀ s : State,
    exec .cma s = .next { s with
      regs := { s.regs with a := BitVec.ofNat 8 (255 - s.regs.a.toNat) }, pc := s.pc + 1 } ∧
    exec .cmc s = .next { s with flags := { s.flags with cy := !s.flags.cy }, pc := s.pc + 1 } ∧
    exec .stc s = .next { s with flags := { s.flags with cy := true }, pc := s.pc + 1 } ∧
    exec .nop s = .next { s with pc := s.pc + 1 }

/-- R389 to R392: the words and effects of the four rotates of A, with the bit shifted out in CY. -/
def Obligations.RotatesMoveTheShiftedBitToCarry : Prop :=
  encode .rlc = [0b00000111] ∧ encode .rrc = [0b00001111] ∧ encode .ral = [0b00010111] ∧ encode .rar = [0b00011111] ∧
  ∀ s : State,
    let a := s.regs.a.toNat
    exec .rlc s = .next (afterRotate s (2 * a + a / 128) (decide (a ≥ 128))) ∧
    exec .rrc s = .next (afterRotate s (a / 2 + 128 * (a % 2)) (decide (a % 2 = 1))) ∧
    exec .ral s = .next (afterRotate s (2 * a + s.flags.cy.toNat) (decide (a ≥ 128))) ∧
    exec .rar s = .next (afterRotate s (a / 2 + 128 * s.flags.cy.toNat) (decide (a % 2 = 1)))

/-- R394, R395: IN and OUT move past their port byte and change nothing else (that they transfer nothing, so that IN
leaves A, is the spec's choice, decision D8). -/
def Obligations.PortsOnlyAdvance : Prop :=
  ∀ (port : Byte) (s : State),
    exec (.inPort port) s = .next { s with pc := s.pc + 2 } ∧
    exec (.outPort port) s = .next { s with pc := s.pc + 2 }

/-- R397: each of the twelve reserved bytes under the two policies (decision D1). -/
def Obligations.ReservedBytesRaiseOrPass : Prop :=
  ∀ e ∈ Instr.reservedTable, ∀ s : State,
    (s.cfg.reservedPolicy = .fault → exec e.2 s = .next { s with status := .faulted e.1 s.pc }) ∧
    (s.cfg.reservedPolicy = .noOp1 → exec e.2 s = .next { s with pc := s.pc + 1 })
end

