-- ==== Sys2Proof/Laws/Decode.lean ====
section
/-! SUPPORT. Laws/Decode.lean: the shape of the opcode map, and decoding case by case. -/

namespace Sys2Proof

/-- The map has 16 rows of 16 entries: `descriptorOf` never reads its default. -/
theorem opcodeMap_shape : opcodeMap.length = 16 ∧ ∀ row ∈ opcodeMap, row.length = 16 := by
  refine ⟨rfl, ?_⟩
  simp [opcodeMap, opcodeRow0, opcodeRow1, opcodeRow2, opcodeRow3, opcodeRow4, opcodeRow5, opcodeRow6, opcodeRow7,
    opcodeRow8, opcodeRow9, opcodeRowA, opcodeRowB, opcodeRowC, opcodeRowD, opcodeRowE, opcodeRowF]

theorem descriptor_length_cases : ∀ n : Fin 256,
    (descriptorOf (BitVec.ofFin n)).length = opcodeLength (BitVec.ofFin n) := by decide +kernel

/-- The map's formats have the lengths R110 lists. -/
theorem descriptorOf_length (op : Byte) : (descriptorOf op).length = opcodeLength op :=
  descriptor_length_cases op.toFin

theorem decode_bare {op : Byte} {i : Instr} (h : descriptorOf op = .bare i) (rest : List Byte) :
    decode (op :: rest) = .ok (i, rest) := by simp [decode, h]

theorem decode_withByte {op : Byte} {k : Byte → Instr} (h : descriptorOf op = .withByte k) (d8 : Byte)
    (rest : List Byte) : decode (op :: d8 :: rest) = .ok (k d8, rest) := by simp [decode, h]

theorem decode_withWord {op : Byte} {k : Word16 → Instr} (h : descriptorOf op = .withWord k) (lo hi : Byte)
    (rest : List Byte) : decode (op :: lo :: hi :: rest) = .ok (k (pairOf hi lo), rest) := by simp [decode, h]

/-- Everything decoding can answer with an instruction. -/
theorem decode_ok_cases {bs rest : List Byte} {i : Instr} (h : decode bs = .ok (i, rest)) :
    (∃ op, descriptorOf op = .bare i ∧ bs = op :: rest) ∨
    (∃ op k d8, descriptorOf op = .withByte k ∧ i = k d8 ∧ bs = op :: d8 :: rest) ∨
    (∃ op k lo hi, descriptorOf op = .withWord k ∧ i = k (pairOf hi lo) ∧ bs = op :: lo :: hi :: rest) := by
  cases bs with
  | nil => simp [decode] at h
  | cons op tail =>
    cases hd : descriptorOf op with
    | bare j =>
      simp only [decode, hd, Except.ok.injEq, Prod.mk.injEq] at h
      exact .inl ⟨op, by rw [hd, h.1], by rw [h.2]⟩
    | withByte k =>
      cases tail with
      | nil => simp [decode, hd] at h
      | cons d8 tail =>
        simp only [decode, hd, Except.ok.injEq, Prod.mk.injEq] at h
        exact .inr (.inl ⟨op, k, d8, hd, h.1.symm, by rw [h.2]⟩)
    | withWord k =>
      match tail with
      | [] => simp [decode, hd] at h
      | [_] => simp [decode, hd] at h
      | lo :: hi :: tail =>
        simp only [decode, hd, Except.ok.injEq, Prod.mk.injEq] at h
        exact .inr (.inr ⟨op, k, lo, hi, hd, h.1.symm, by rw [h.2]⟩)

end Sys2Proof
end

