-- ==== Sys2Proof/Laws/Forms.lean ====
section
/-! SUPPORT. Laws/Forms.lean: every instruction is one of the forms of 30_encoding.md rule R103, so that a property of
all 256 constructors follows from one case per form. -/

namespace Sys2Proof

/-- Case analysis by form: the fields of a form stay variables. -/
theorem Instr.by_form {P : Instr → Prop}
    (hNop : P .nop)
    (hLxi : ∀ p v, P (.lxi p v))
    (hStax : ∀ o, P (.stax o))
    (hInx : ∀ o, P (.inx o))
    (hInr : ∀ o, P (.inr o))
    (hDcr : ∀ o, P (.dcr o))
    (hMvi : ∀ o v, P (.mvi o v))
    (hRlc : P .rlc)
    (hReserved : ∀ e ∈ Instr.reservedTable, P e.2)
    (hDad : ∀ o, P (.dad o))
    (hLdax : ∀ o, P (.ldax o))
    (hDcx : ∀ o, P (.dcx o))
    (hRrc : P .rrc)
    (hRal : P .ral)
    (hRar : P .rar)
    (hShld : ∀ v, P (.shld v))
    (hDaa : P .daa)
    (hLhld : ∀ v, P (.lhld v))
    (hCma : P .cma)
    (hSta : ∀ v, P (.sta v))
    (hStc : P .stc)
    (hLda : ∀ v, P (.lda v))
    (hCmc : P .cmc)
    (hMov : ∀ dst src, P (.mov dst src))
    (hMovRM : ∀ o, P (.movRM o))
    (hMovMR : ∀ o, P (.movMR o))
    (hHlt : P .hlt)
    (hAdd : ∀ o, P (.add o))
    (hAdc : ∀ o, P (.adc o))
    (hSub : ∀ o, P (.sub o))
    (hSbb : ∀ o, P (.sbb o))
    (hAna : ∀ o, P (.ana o))
    (hXra : ∀ o, P (.xra o))
    (hOra : ∀ o, P (.ora o))
    (hCmp : ∀ o, P (.cmp o))
    (hReturnIf : ∀ o, P (.returnIf o))
    (hPop : ∀ o, P (.pop o))
    (hJumpIf : ∀ k a, P (.jumpIf k a))
    (hJmp : ∀ v, P (.jmp v))
    (hCallIf : ∀ k a, P (.callIf k a))
    (hPush : ∀ o, P (.push o))
    (hAdi : ∀ v, P (.adi v))
    (hRst : ∀ o, P (.rst o))
    (hRet : P .ret)
    (hCall : ∀ v, P (.call v))
    (hAci : ∀ v, P (.aci v))
    (hOutPort : ∀ v, P (.outPort v))
    (hSui : ∀ v, P (.sui v))
    (hInPort : ∀ v, P (.inPort v))
    (hSbi : ∀ v, P (.sbi v))
    (hXthl : P .xthl)
    (hAni : ∀ v, P (.ani v))
    (hPchl : P .pchl)
    (hXchg : P .xchg)
    (hXri : ∀ v, P (.xri v))
    (hPopPSW : P .popPSW)
    (hDi : P .di)
    (hPushPSW : P .pushPSW)
    (hOri : ∀ v, P (.ori v))
    (hSphl : P .sphl)
    (hEi : P .ei)
    (hCpi : ∀ v, P (.cpi v)) :
    ∀ i, P i := by
  intro i
  cases i with
  | nop => exact hNop
  | lxiB v => exact hLxi .bc v
  | staxB => exact hStax .bc
  | inxB => exact hInx .bc
  | inrB => exact hInr (.reg .b)
  | dcrB => exact hDcr (.reg .b)
  | mviB v => exact hMvi (.reg .b) v
  | rlc => exact hRlc
  | reserved08 => exact hReserved (0x08, .reserved08) (by decide)
  | dadB => exact hDad .bc
  | ldaxB => exact hLdax .bc
  | dcxB => exact hDcx .bc
  | inrC => exact hInr (.reg .c)
  | dcrC => exact hDcr (.reg .c)
  | mviC v => exact hMvi (.reg .c) v
  | rrc => exact hRrc
  | reserved10 => exact hReserved (0x10, .reserved10) (by decide)
  | lxiD v => exact hLxi .de v
  | staxD => exact hStax .de
  | inxD => exact hInx .de
  | inrD => exact hInr (.reg .d)
  | dcrD => exact hDcr (.reg .d)
  | mviD v => exact hMvi (.reg .d) v
  | ral => exact hRal
  | reserved18 => exact hReserved (0x18, .reserved18) (by decide)
  | dadD => exact hDad .de
  | ldaxD => exact hLdax .de
  | dcxD => exact hDcx .de
  | inrE => exact hInr (.reg .e)
  | dcrE => exact hDcr (.reg .e)
  | mviE v => exact hMvi (.reg .e) v
  | rar => exact hRar
  | reserved20 => exact hReserved (0x20, .reserved20) (by decide)
  | lxiH v => exact hLxi .hl v
  | shld v => exact hShld v
  | inxH => exact hInx .hl
  | inrH => exact hInr (.reg .h)
  | dcrH => exact hDcr (.reg .h)
  | mviH v => exact hMvi (.reg .h) v
  | daa => exact hDaa
  | reserved28 => exact hReserved (0x28, .reserved28) (by decide)
  | dadH => exact hDad .hl
  | lhld v => exact hLhld v
  | dcxH => exact hDcx .hl
  | inrL => exact hInr (.reg .l)
  | dcrL => exact hDcr (.reg .l)
  | mviL v => exact hMvi (.reg .l) v
  | cma => exact hCma
  | reserved30 => exact hReserved (0x30, .reserved30) (by decide)
  | lxiSP v => exact hLxi .sp v
  | sta v => exact hSta v
  | inxSP => exact hInx .sp
  | inrM => exact hInr .m
  | dcrM => exact hDcr .m
  | mviM v => exact hMvi .m v
  | stc => exact hStc
  | reserved38 => exact hReserved (0x38, .reserved38) (by decide)
  | dadSP => exact hDad .sp
  | lda v => exact hLda v
  | dcxSP => exact hDcx .sp
  | inrA => exact hInr (.reg .a)
  | dcrA => exact hDcr (.reg .a)
  | mviA v => exact hMvi (.reg .a) v
  | cmc => exact hCmc
  | movBB => exact hMov .b .b
  | movBC => exact hMov .b .c
  | movBD => exact hMov .b .d
  | movBE => exact hMov .b .e
  | movBH => exact hMov .b .h
  | movBL => exact hMov .b .l
  | movBM => exact hMovRM .b
  | movBA => exact hMov .b .a
  | movCB => exact hMov .c .b
  | movCC => exact hMov .c .c
  | movCD => exact hMov .c .d
  | movCE => exact hMov .c .e
  | movCH => exact hMov .c .h
  | movCL => exact hMov .c .l
  | movCM => exact hMovRM .c
  | movCA => exact hMov .c .a
  | movDB => exact hMov .d .b
  | movDC => exact hMov .d .c
  | movDD => exact hMov .d .d
  | movDE => exact hMov .d .e
  | movDH => exact hMov .d .h
  | movDL => exact hMov .d .l
  | movDM => exact hMovRM .d
  | movDA => exact hMov .d .a
  | movEB => exact hMov .e .b
  | movEC => exact hMov .e .c
  | movED => exact hMov .e .d
  | movEE => exact hMov .e .e
  | movEH => exact hMov .e .h
  | movEL => exact hMov .e .l
  | movEM => exact hMovRM .e
  | movEA => exact hMov .e .a
  | movHB => exact hMov .h .b
  | movHC => exact hMov .h .c
  | movHD => exact hMov .h .d
  | movHE => exact hMov .h .e
  | movHH => exact hMov .h .h
  | movHL => exact hMov .h .l
  | movHM => exact hMovRM .h
  | movHA => exact hMov .h .a
  | movLB => exact hMov .l .b
  | movLC => exact hMov .l .c
  | movLD => exact hMov .l .d
  | movLE => exact hMov .l .e
  | movLH => exact hMov .l .h
  | movLL => exact hMov .l .l
  | movLM => exact hMovRM .l
  | movLA => exact hMov .l .a
  | movMB => exact hMovMR .b
  | movMC => exact hMovMR .c
  | movMD => exact hMovMR .d
  | movME => exact hMovMR .e
  | movMH => exact hMovMR .h
  | movML => exact hMovMR .l
  | hlt => exact hHlt
  | movMA => exact hMovMR .a
  | movAB => exact hMov .a .b
  | movAC => exact hMov .a .c
  | movAD => exact hMov .a .d
  | movAE => exact hMov .a .e
  | movAH => exact hMov .a .h
  | movAL => exact hMov .a .l
  | movAM => exact hMovRM .a
  | movAA => exact hMov .a .a
  | addB => exact hAdd (.reg .b)
  | addC => exact hAdd (.reg .c)
  | addD => exact hAdd (.reg .d)
  | addE => exact hAdd (.reg .e)
  | addH => exact hAdd (.reg .h)
  | addL => exact hAdd (.reg .l)
  | addM => exact hAdd .m
  | addA => exact hAdd (.reg .a)
  | adcB => exact hAdc (.reg .b)
  | adcC => exact hAdc (.reg .c)
  | adcD => exact hAdc (.reg .d)
  | adcE => exact hAdc (.reg .e)
  | adcH => exact hAdc (.reg .h)
  | adcL => exact hAdc (.reg .l)
  | adcM => exact hAdc .m
  | adcA => exact hAdc (.reg .a)
  | subB => exact hSub (.reg .b)
  | subC => exact hSub (.reg .c)
  | subD => exact hSub (.reg .d)
  | subE => exact hSub (.reg .e)
  | subH => exact hSub (.reg .h)
  | subL => exact hSub (.reg .l)
  | subM => exact hSub .m
  | subA => exact hSub (.reg .a)
  | sbbB => exact hSbb (.reg .b)
  | sbbC => exact hSbb (.reg .c)
  | sbbD => exact hSbb (.reg .d)
  | sbbE => exact hSbb (.reg .e)
  | sbbH => exact hSbb (.reg .h)
  | sbbL => exact hSbb (.reg .l)
  | sbbM => exact hSbb .m
  | sbbA => exact hSbb (.reg .a)
  | anaB => exact hAna (.reg .b)
  | anaC => exact hAna (.reg .c)
  | anaD => exact hAna (.reg .d)
  | anaE => exact hAna (.reg .e)
  | anaH => exact hAna (.reg .h)
  | anaL => exact hAna (.reg .l)
  | anaM => exact hAna .m
  | anaA => exact hAna (.reg .a)
  | xraB => exact hXra (.reg .b)
  | xraC => exact hXra (.reg .c)
  | xraD => exact hXra (.reg .d)
  | xraE => exact hXra (.reg .e)
  | xraH => exact hXra (.reg .h)
  | xraL => exact hXra (.reg .l)
  | xraM => exact hXra .m
  | xraA => exact hXra (.reg .a)
  | oraB => exact hOra (.reg .b)
  | oraC => exact hOra (.reg .c)
  | oraD => exact hOra (.reg .d)
  | oraE => exact hOra (.reg .e)
  | oraH => exact hOra (.reg .h)
  | oraL => exact hOra (.reg .l)
  | oraM => exact hOra .m
  | oraA => exact hOra (.reg .a)
  | cmpB => exact hCmp (.reg .b)
  | cmpC => exact hCmp (.reg .c)
  | cmpD => exact hCmp (.reg .d)
  | cmpE => exact hCmp (.reg .e)
  | cmpH => exact hCmp (.reg .h)
  | cmpL => exact hCmp (.reg .l)
  | cmpM => exact hCmp .m
  | cmpA => exact hCmp (.reg .a)
  | rnz => exact hReturnIf .nz
  | popB => exact hPop .bc
  | jnz v => exact hJumpIf .nz v
  | jmp v => exact hJmp v
  | cnz v => exact hCallIf .nz v
  | pushB => exact hPush .bc
  | adi v => exact hAdi v
  | rst0 => exact hRst 0
  | rz => exact hReturnIf .z
  | ret => exact hRet
  | jz v => exact hJumpIf .z v
  | reservedCB => exact hReserved (0xCB, .reservedCB) (by decide)
  | cz v => exact hCallIf .z v
  | call v => exact hCall v
  | aci v => exact hAci v
  | rst1 => exact hRst 1
  | rnc => exact hReturnIf .nc
  | popD => exact hPop .de
  | jnc v => exact hJumpIf .nc v
  | outPort v => exact hOutPort v
  | cnc v => exact hCallIf .nc v
  | pushD => exact hPush .de
  | sui v => exact hSui v
  | rst2 => exact hRst 2
  | rc => exact hReturnIf .c
  | reservedD9 => exact hReserved (0xD9, .reservedD9) (by decide)
  | jc v => exact hJumpIf .c v
  | inPort v => exact hInPort v
  | cc v => exact hCallIf .c v
  | reservedDD => exact hReserved (0xDD, .reservedDD) (by decide)
  | sbi v => exact hSbi v
  | rst3 => exact hRst 3
  | rpo => exact hReturnIf .po
  | popH => exact hPop .hl
  | jpo v => exact hJumpIf .po v
  | xthl => exact hXthl
  | cpo v => exact hCallIf .po v
  | pushH => exact hPush .hl
  | ani v => exact hAni v
  | rst4 => exact hRst 4
  | rpe => exact hReturnIf .pe
  | pchl => exact hPchl
  | jpe v => exact hJumpIf .pe v
  | xchg => exact hXchg
  | cpe v => exact hCallIf .pe v
  | reservedED => exact hReserved (0xED, .reservedED) (by decide)
  | xri v => exact hXri v
  | rst5 => exact hRst 5
  | rp => exact hReturnIf .p
  | popPSW => exact hPopPSW
  | jp v => exact hJumpIf .p v
  | di => exact hDi
  | cp v => exact hCallIf .p v
  | pushPSW => exact hPushPSW
  | ori v => exact hOri v
  | rst6 => exact hRst 6
  | rm => exact hReturnIf .m
  | sphl => exact hSphl
  | jm v => exact hJumpIf .m v
  | ei => exact hEi
  | cm v => exact hCallIf .m v
  | reservedFD => exact hReserved (0xFD, .reservedFD) (by decide)
  | cpi v => exact hCpi v
  | rst7 => exact hRst 7

namespace Machine

/-! ## What exec does with each form -/

theorem exec_mov (dst src : Reg) (s : State) : exec (.mov dst src) s = moveRegister dst src s := by
  cases dst <;> cases src <;> rfl

theorem exec_movRM (dst : Reg) (s : State) : exec (.movRM dst) s = moveFromMemory dst s := by cases dst <;> rfl

theorem exec_movMR (src : Reg) (s : State) : exec (.movMR src) s = moveToMemory src s := by cases src <;> rfl

theorem exec_mvi (o : Operand8) (d8 : Byte) (s : State) : exec (.mvi o d8) s = moveImmediate o d8 s := by
  cases o with
  | reg r => cases r <;> rfl
  | m => rfl

theorem exec_lxi (p : Pair) (d16 : Word16) (s : State) : exec (.lxi p d16) s = loadPairImmediate p d16 s := by
  cases p <;> rfl

theorem exec_ldax (p : PointerPair) (s : State) : exec (.ldax p) s = loadIndirect p s := by cases p <;> rfl

theorem exec_stax (p : PointerPair) (s : State) : exec (.stax p) s = storeIndirect p s := by cases p <;> rfl

theorem exec_add (o : Operand8) (s : State) : exec (.add o) s = addOperand o s := by
  cases o with
  | reg r => cases r <;> rfl
  | m => rfl

theorem exec_adc (o : Operand8) (s : State) : exec (.adc o) s = addOperandWithCarry o s := by
  cases o with
  | reg r => cases r <;> rfl
  | m => rfl

theorem exec_sub (o : Operand8) (s : State) : exec (.sub o) s = subOperand o s := by
  cases o with
  | reg r => cases r <;> rfl
  | m => rfl

theorem exec_sbb (o : Operand8) (s : State) : exec (.sbb o) s = subOperandWithBorrow o s := by
  cases o with
  | reg r => cases r <;> rfl
  | m => rfl

theorem exec_inr (o : Operand8) (s : State) : exec (.inr o) s = incrementOperand o s := by
  cases o with
  | reg r => cases r <;> rfl
  | m => rfl

theorem exec_dcr (o : Operand8) (s : State) : exec (.dcr o) s = decrementOperand o s := by
  cases o with
  | reg r => cases r <;> rfl
  | m => rfl

theorem exec_ana (o : Operand8) (s : State) : exec (.ana o) s = andOperand o s := by
  cases o with
  | reg r => cases r <;> rfl
  | m => rfl

theorem exec_xra (o : Operand8) (s : State) : exec (.xra o) s = xorOperand o s := by
  cases o with
  | reg r => cases r <;> rfl
  | m => rfl

theorem exec_ora (o : Operand8) (s : State) : exec (.ora o) s = orOperand o s := by
  cases o with
  | reg r => cases r <;> rfl
  | m => rfl

theorem exec_cmp (o : Operand8) (s : State) : exec (.cmp o) s = compareOperand o s := by
  cases o with
  | reg r => cases r <;> rfl
  | m => rfl

theorem exec_inx (p : Pair) (s : State) : exec (.inx p) s = incrementPair p s := by cases p <;> rfl

theorem exec_dcx (p : Pair) (s : State) : exec (.dcx p) s = decrementPair p s := by cases p <;> rfl

theorem exec_dad (p : Pair) (s : State) : exec (.dad p) s = doubleAdd p s := by cases p <;> rfl

theorem exec_jumpIf (k : Cond) (a16 : Word16) (s : State) : exec (.jumpIf k a16) s = jumpWhen k a16 s := by
  cases k <;> rfl

theorem exec_callIf (k : Cond) (a16 : Word16) (s : State) : exec (.callIf k a16) s = callWhen k a16 s := by
  cases k <;> rfl

theorem exec_returnIf (k : Cond) (s : State) : exec (.returnIf k) s = returnWhen k s := by cases k <;> rfl

theorem exec_rst (n : Fin 8) (s : State) : exec (.rst n) s = restart n s := by
  match n with
  | 0 | 1 | 2 | 3 | 4 | 5 | 6 | 7 => rfl

theorem exec_push (p : StackPair) (s : State) : exec (.push p) s = pushPair p s := by cases p <;> rfl

theorem exec_pop (p : StackPair) (s : State) : exec (.pop p) s = popPair p s := by cases p <;> rfl

/-- A reserved constructor of R113's table runs as its byte. -/
theorem exec_reserved {e : Byte × Instr} (h : e ∈ Instr.reservedTable) (s : State) :
    exec e.2 s = executeReserved e.1 s := by
  fin_cases h <;> rfl

end Machine

end Sys2Proof
end

