-- ==== Sys2Proof/Laws/Memory.lean ====
section
/-! SUPPORT. Laws/Memory.lean: reading after writing, and the canonical form, for every memory operation. -/

namespace Sys2Proof.Machine

/-! ## Reading after writing; no canonical form is assumed -/

theorem Memory.lookup_erase_same (m : Memory) (n : Nat) : (m.erase n).lookup n = Memory.unlisted := by
  induction m with
  | nil => rfl
  | cons c m ih =>
    obtain ⟨k, v⟩ := c
    by_cases h : k = n
    · simpa [Memory.erase, h] using ih
    · simpa [Memory.erase, h, Memory.lookup] using ih

theorem Memory.lookup_erase_other (m : Memory) {n k : Nat} (h : k ≠ n) : (m.erase n).lookup k = m.lookup k := by
  induction m with
  | nil => rfl
  | cons c m ih =>
    obtain ⟨j, v⟩ := c
    by_cases hj : j = n
    · subst hj
      simpa [Memory.erase, Memory.lookup, Ne.symm h] using ih
    · have : Memory.erase ((j, v) :: m) n = (j, v) :: Memory.erase m n := by simp [Memory.erase, hj]
      rw [this, Memory.lookup, Memory.lookup, ih]

theorem Memory.lookup_insert_other (m : Memory) {n k : Nat} (v : Byte) (h : k ≠ n) :
    (m.insert n v).lookup k = m.lookup k := by
  induction m with
  | nil => simp [Memory.insert, Memory.lookup, Ne.symm h]
  | cons c m ih =>
    obtain ⟨j, w⟩ := c
    by_cases hlt : n < j
    · simp [Memory.insert, hlt, Memory.lookup, Ne.symm h]
    · simp only [Memory.insert, hlt, if_false, Memory.lookup, ih]

theorem Memory.lookup_insert_same (m : Memory) {n : Nat} (v : Byte) (h : ∀ c ∈ m, c.1 ≠ n) :
    (m.insert n v).lookup n = v := by
  induction m with
  | nil => simp [Memory.insert, Memory.lookup]
  | cons c m ih =>
    obtain ⟨j, w⟩ := c
    have hj : j ≠ n := h (j, w) (by simp)
    by_cases hlt : n < j
    · simp [Memory.insert, hlt, Memory.lookup]
    · simp only [Memory.insert, hlt, if_false, Memory.lookup, hj]
      exact ih fun c hc => h c (by simp [hc])

theorem Memory.mem_erase {m : Memory} {n : Nat} {c : Host.Cell} : c ∈ m.erase n ↔ c ∈ m ∧ c.1 ≠ n := by
  simp [Memory.erase]

@[simp] theorem Memory.read_write_same (m : Memory) (a : Word16) (v : Byte) : (m.write a v).read a = v := by
  unfold Memory.write Memory.read
  split
  · rename_i h; rw [Memory.lookup_erase_same, h]
  · exact Memory.lookup_insert_same _ v fun c hc => (Memory.mem_erase.mp hc).2

theorem Memory.read_write_other (m : Memory) {a x : Word16} (v : Byte) (h : x ≠ a) :
    (m.write a v).read x = m.read x := by
  have hn : x.toNat ≠ a.toNat := fun e => h (BitVec.eq_of_toNat_eq e)
  unfold Memory.write Memory.read
  split
  · exact Memory.lookup_erase_other m hn
  · rw [Memory.lookup_insert_other _ v hn, Memory.lookup_erase_other m hn]

/-- Everything one write does to reading. -/
theorem Memory.read_write (m : Memory) (a x : Word16) (v : Byte) :
    (m.write a v).read x = if x = a then v else m.read x := by
  split
  · rename_i h; rw [h, Memory.read_write_same]
  · rename_i h; exact Memory.read_write_other m v h

/-! ## The canonical form -/

theorem Memory.wf_nil : Memory.wf [] := by simp [Memory.wf]

theorem Memory.wf_erase {m : Memory} (h : m.wf) (n : Nat) : (m.erase n).wf :=
  ⟨h.1.filter _, fun c hc => h.2 c (Memory.mem_erase.mp hc).1⟩

theorem Memory.mem_insert {m : Memory} {n : Nat} {v : Byte} {c : Host.Cell} (h : c ∈ m.insert n v) :
    c = (n, v) ∨ c ∈ m := by
  induction m with
  | nil => simpa [Memory.insert] using h
  | cons d m ih =>
    obtain ⟨j, w⟩ := d
    by_cases hlt : n < j
    · simpa [Memory.insert, hlt] using h
    · simp only [Memory.insert, hlt, if_false, List.mem_cons] at h
      rcases h with h | h
      · simp [h]
      · rcases ih h with h | h <;> simp [h]

theorem Memory.wf_insert {m : Memory} (h : m.wf) {n : Nat} {v : Byte} (hn : n < 65536)
    (hv : v ≠ Memory.unlisted) (hm : ∀ c ∈ m, c.1 ≠ n) : (m.insert n v).wf := by
  refine ⟨?_, fun c hc => ?_⟩
  · induction m with
    | nil => simp [Memory.insert]
    | cons d m ih =>
      obtain ⟨j, w⟩ := d
      obtain ⟨hp, hc⟩ := h
      rw [List.pairwise_cons] at hp
      by_cases hlt : n < j
      · simp only [Memory.insert, hlt, if_true, List.pairwise_cons]
        refine ⟨fun c hc => ?_, hp⟩
        rcases List.mem_cons.mp hc with rfl | hc
        · exact hlt
        · exact Nat.lt_trans hlt (hp.1 c hc)
      · simp only [Memory.insert, hlt, if_false, List.pairwise_cons]
        have hne : j ≠ n := hm (j, w) (by simp)
        refine ⟨fun c hc' => ?_, ih ⟨hp.2, fun c h => hc c (by simp [h])⟩ fun c h => hm c (by simp [h])⟩
        rcases Memory.mem_insert hc' with rfl | h
        · show j < n
          omega
        · exact hp.1 c h
  · rcases Memory.mem_insert hc with rfl | h'
    · exact ⟨hn, hv⟩
    · exact h.2 c h'

theorem Memory.wf_write {m : Memory} (h : m.wf) (a : Word16) (v : Byte) : (m.write a v).wf := by
  unfold Memory.write
  split
  · exact Memory.wf_erase h _
  · rename_i hv
    exact Memory.wf_insert (Memory.wf_erase h _) a.isLt hv fun c hc => (Memory.mem_erase.mp hc).2

theorem Memory.wf_writeBytes {m : Memory} (h : m.wf) (a : Word16) (bs : List Byte) : (m.writeBytes a bs).wf := by
  induction bs generalizing m a with
  | nil => exact h
  | cons b bs ih => exact ih (Memory.wf_write h a b) (a + 1)

theorem Launch.memoryBefore_wf (cells : List (Word16 × Byte)) : (Launch.memoryBefore cells).wf := by
  induction cells with
  | nil => exact Memory.wf_nil
  | cons c cs ih => exact Memory.wf_write ih c.1 c.2

theorem State.reset_mem_wf : State.reset.mem.wf := Memory.wf_nil

/-! ## The same on states -/

/-- Everything one byte store does to reading. -/
theorem State.readByte_writeByte (s : State) (a x : Word16) (v : Byte) :
    (s.writeByte a v).readByte x = if x = a then v else s.readByte x := Memory.read_write s.mem a x v

/-- Everything a 2-byte store does to reading; the second byte counts where the two addresses met. -/
theorem State.readByte_writeWord (s : State) (a x : Word16) (v : Word16) :
    (s.writeWord a v).readByte x =
      if x = a + 1 then highByte v else if x = a then lowByte v else s.readByte x := by
  rw [State.writeWord, State.readByte_writeByte, State.readByte_writeByte]

theorem State.writeByte_wf {s : State} (h : s.mem.wf) (a : Word16) (v : Byte) : (s.writeByte a v).mem.wf :=
  Memory.wf_write h a v

theorem State.writeWord_wf {s : State} (h : s.mem.wf) (a : Word16) (v : Word16) : (s.writeWord a v).mem.wf :=
  Memory.wf_write (Memory.wf_write h a _) _ _

theorem State.push16_wf {s : State} (h : s.mem.wf) (v : Word16) : (s.push16 v).mem.wf :=
  State.writeWord_wf (s := { s with sp := s.sp - 2 }) h _ v

end Sys2Proof.Machine
end

