-- ==== Sys2Proof/Laws/Operands.lean ====
section
/-! SUPPORT. Laws/Operands.lean: bytes of 16-bit values, registers, pairs and operands. -/

namespace Sys2Proof

@[simp] theorem pairOf_highByte_lowByte (w : Word16) : pairOf (highByte w) (lowByte w) = w := by
  apply BitVec.eq_of_toNat_eq
  have := w.isLt
  simp only [pairOf, highByte, lowByte, BitVec.toNat_append, BitVec.extractLsb'_toNat, Nat.shiftRight_zero]
  rw [← Nat.shiftLeft_add_eq_or_of_lt (by omega)]
  simp only [Nat.shiftLeft_eq, Nat.shiftRight_eq_div_pow]
  omega

theorem pairOf_toNat (h l : Byte) : (pairOf h l).toNat = h.toNat * 256 + l.toNat := by
  simp only [pairOf, BitVec.toNat_append]
  rw [← Nat.shiftLeft_add_eq_or_of_lt l.isLt, Nat.shiftLeft_eq]

theorem highByte_toNat (w : Word16) : (highByte w).toNat = w.toNat / 256 := by
  have := w.isLt
  simp only [highByte, BitVec.extractLsb'_toNat, Nat.shiftRight_eq_div_pow]
  omega

theorem lowByte_toNat (w : Word16) : (lowByte w).toNat = w.toNat % 256 := by
  simp [lowByte, BitVec.extractLsb'_toNat]

@[simp] theorem highByte_pairOf (h l : Byte) : highByte (pairOf h l) = h := by
  apply BitVec.eq_of_toNat_eq
  rw [highByte_toNat, pairOf_toNat]
  have := l.isLt
  omega

@[simp] theorem lowByte_pairOf (h l : Byte) : lowByte (pairOf h l) = l := by
  apply BitVec.eq_of_toNat_eq
  rw [lowByte_toNat, pairOf_toNat]
  have := l.isLt
  omega

namespace Machine

/-- A 2-byte read after a 2-byte store at the same address gives the value back, wrap included. -/
theorem State.readWord_writeWord (s : State) (a : Word16) (v : Word16) : (s.writeWord a v).readWord a = v := by
  simp [State.readWord, State.readByte_writeWord]

@[simp] theorem RegFile.get_set_same (f : RegFile) (r : Reg) (v : Byte) : (f.set r v).get r = v := by
  cases r <;> rfl

theorem RegFile.get_set_other (f : RegFile) {r q : Reg} (v : Byte) (h : q ≠ r) : (f.set r v).get q = f.get q := by
  cases r <;> cases q <;> first | rfl | exact absurd rfl h

/-- Everything one register write does to reading. -/
theorem RegFile.get_set (f : RegFile) (r q : Reg) (v : Byte) : (f.set r v).get q = if q = r then v else f.get q := by
  split
  · rename_i h; rw [h, RegFile.get_set_same]
  · rename_i h; exact RegFile.get_set_other f v h

/-- Two register files that agree on every register are equal. -/
theorem RegFile.eq_of_get {f g : RegFile} (h : ∀ r, f.get r = g.get r) : f = g := by
  obtain ⟨⟩ := f
  obtain ⟨⟩ := g
  simp only [RegFile.mk.injEq]
  exact ⟨h .a, h .b, h .c, h .d, h .e, h .h, h .l⟩

@[simp] theorem State.pair_setPair_same (s : State) (p : Pair) (v : Word16) : (s.setPair p v).pair p = v := by
  cases p <;> simp [State.setPair, State.pair, RegFile.bc, RegFile.de, RegFile.hl]

/-- Reading a pair after writing another of the four. -/
theorem State.pair_setPair_other (s : State) {p q : Pair} (v : Word16) (h : q ≠ p) :
    (s.setPair p v).pair q = s.pair q := by
  cases p <;> cases q <;> first | rfl | exact absurd rfl h

@[simp] theorem StackPair.toPair_ne_sp (p : StackPair) : p.toPair ≠ .sp := by cases p <;> simp [StackPair.toPair]

/-- Writing a pair never touches what is not a register or SP. -/
theorem State.setPair_frame (s : State) (p : Pair) (v : Word16) :
    s.setPair p v = { s with regs := (s.setPair p v).regs, sp := (s.setPair p v).sp } := by
  cases p <;> rfl

/-- Writing BC, DE or HL leaves SP. -/
theorem State.setPair_sp_of_ne (s : State) {p : Pair} (v : Word16) (h : p ≠ .sp) : (s.setPair p v).sp = s.sp := by
  cases p <;> first | rfl | exact absurd rfl h

/-- Everything `set8` does: one register, or the byte at HL. -/
theorem State.setOperand8_cases (s : State) (o : Operand8) (v : Byte) :
    (∃ r, o = .reg r ∧ s.setOperand8 o v = s.setReg r v) ∨
    (o = .m ∧ s.setOperand8 o v = s.writeByte s.regs.hl v) := by
  cases o with
  | reg r => exact .inl ⟨r, rfl, rfl⟩
  | m => exact .inr ⟨rfl, rfl⟩

end Machine

end Sys2Proof
end

