-- ==== Sys2Proof/Laws/State.lean ====
section
/-! SUPPORT. Laws/State.lean: for each shared operation on a state, one lemma per field. -/

namespace Sys2Proof.Machine

/-! ### advance -/

@[simp] theorem State.advance_regs (s : State) (len : Nat) : (s.advance len).regs = s.regs := rfl
@[simp] theorem State.advance_sp (s : State) (len : Nat) : (s.advance len).sp = s.sp := rfl
@[simp] theorem State.advance_pc (s : State) (len : Nat) : (s.advance len).pc = s.pc + BitVec.ofNat 16 len := rfl
@[simp] theorem State.advance_flags (s : State) (len : Nat) : (s.advance len).flags = s.flags := rfl
@[simp] theorem State.advance_inte (s : State) (len : Nat) : (s.advance len).inte = s.inte := rfl
@[simp] theorem State.advance_mem (s : State) (len : Nat) : (s.advance len).mem = s.mem := rfl
@[simp] theorem State.advance_status (s : State) (len : Nat) : (s.advance len).status = s.status := rfl
@[simp] theorem State.advance_cfg (s : State) (len : Nat) : (s.advance len).cfg = s.cfg := rfl

/-! ### setReg -/

@[simp] theorem State.setReg_regs (s : State) (r : Reg) (v : Byte) : (s.setReg r v).regs = s.regs.set r v := rfl
@[simp] theorem State.setReg_sp (s : State) (r : Reg) (v : Byte) : (s.setReg r v).sp = s.sp := rfl
@[simp] theorem State.setReg_pc (s : State) (r : Reg) (v : Byte) : (s.setReg r v).pc = s.pc := rfl
@[simp] theorem State.setReg_flags (s : State) (r : Reg) (v : Byte) : (s.setReg r v).flags = s.flags := rfl
@[simp] theorem State.setReg_inte (s : State) (r : Reg) (v : Byte) : (s.setReg r v).inte = s.inte := rfl
@[simp] theorem State.setReg_mem (s : State) (r : Reg) (v : Byte) : (s.setReg r v).mem = s.mem := rfl
@[simp] theorem State.setReg_status (s : State) (r : Reg) (v : Byte) : (s.setReg r v).status = s.status := rfl
@[simp] theorem State.setReg_cfg (s : State) (r : Reg) (v : Byte) : (s.setReg r v).cfg = s.cfg := rfl

/-! ### writeByte -/

@[simp] theorem State.writeByte_regs (s : State) (a : Word16) (v : Byte) : (s.writeByte a v).regs = s.regs := rfl
@[simp] theorem State.writeByte_sp (s : State) (a : Word16) (v : Byte) : (s.writeByte a v).sp = s.sp := rfl
@[simp] theorem State.writeByte_pc (s : State) (a : Word16) (v : Byte) : (s.writeByte a v).pc = s.pc := rfl
@[simp] theorem State.writeByte_flags (s : State) (a : Word16) (v : Byte) : (s.writeByte a v).flags = s.flags := rfl
@[simp] theorem State.writeByte_inte (s : State) (a : Word16) (v : Byte) : (s.writeByte a v).inte = s.inte := rfl
@[simp] theorem State.writeByte_mem (s : State) (a : Word16) (v : Byte) : (s.writeByte a v).mem = s.mem.write a v := rfl
@[simp] theorem State.writeByte_status (s : State) (a : Word16) (v : Byte) : (s.writeByte a v).status = s.status := rfl
@[simp] theorem State.writeByte_cfg (s : State) (a : Word16) (v : Byte) : (s.writeByte a v).cfg = s.cfg := rfl

/-! ### writeWord -/

@[simp] theorem State.writeWord_regs (s : State) (a : Word16) (v : Word16) : (s.writeWord a v).regs = s.regs := rfl
@[simp] theorem State.writeWord_sp (s : State) (a : Word16) (v : Word16) : (s.writeWord a v).sp = s.sp := rfl
@[simp] theorem State.writeWord_pc (s : State) (a : Word16) (v : Word16) : (s.writeWord a v).pc = s.pc := rfl
@[simp] theorem State.writeWord_flags (s : State) (a : Word16) (v : Word16) : (s.writeWord a v).flags = s.flags := rfl
@[simp] theorem State.writeWord_inte (s : State) (a : Word16) (v : Word16) : (s.writeWord a v).inte = s.inte := rfl
@[simp] theorem State.writeWord_mem (s : State) (a : Word16) (v : Word16) :
    (s.writeWord a v).mem = (s.mem.write a (lowByte v)).write (a + 1) (highByte v) :=
  rfl
@[simp] theorem State.writeWord_status (s : State) (a : Word16) (v : Word16) : (s.writeWord a v).status = s.status :=
  rfl
@[simp] theorem State.writeWord_cfg (s : State) (a : Word16) (v : Word16) : (s.writeWord a v).cfg = s.cfg := rfl

/-! ### push16 -/

@[simp] theorem State.push16_regs (s : State) (v : Word16) : (s.push16 v).regs = s.regs := rfl
@[simp] theorem State.push16_sp (s : State) (v : Word16) : (s.push16 v).sp = s.sp - 2 := rfl
@[simp] theorem State.push16_pc (s : State) (v : Word16) : (s.push16 v).pc = s.pc := rfl
@[simp] theorem State.push16_flags (s : State) (v : Word16) : (s.push16 v).flags = s.flags := rfl
@[simp] theorem State.push16_inte (s : State) (v : Word16) : (s.push16 v).inte = s.inte := rfl
@[simp] theorem State.push16_mem (s : State) (v : Word16) : (s.push16 v).mem = (s.writeWord (s.sp - 2) v).mem := rfl
@[simp] theorem State.push16_status (s : State) (v : Word16) : (s.push16 v).status = s.status := rfl
@[simp] theorem State.push16_cfg (s : State) (v : Word16) : (s.push16 v).cfg = s.cfg := rfl

/-! ### dropTop -/

@[simp] theorem State.dropTop_regs (s : State) : s.dropTop.regs = s.regs := rfl
@[simp] theorem State.dropTop_sp (s : State) : s.dropTop.sp = s.sp + 2 := rfl
@[simp] theorem State.dropTop_pc (s : State) : s.dropTop.pc = s.pc := rfl
@[simp] theorem State.dropTop_flags (s : State) : s.dropTop.flags = s.flags := rfl
@[simp] theorem State.dropTop_inte (s : State) : s.dropTop.inte = s.inte := rfl
@[simp] theorem State.dropTop_mem (s : State) : s.dropTop.mem = s.mem := rfl
@[simp] theorem State.dropTop_status (s : State) : s.dropTop.status = s.status := rfl
@[simp] theorem State.dropTop_cfg (s : State) : s.dropTop.cfg = s.cfg := rfl

/-! ### halt -/

@[simp] theorem State.halt_regs (s : State) : s.halt.regs = s.regs := rfl
@[simp] theorem State.halt_sp (s : State) : s.halt.sp = s.sp := rfl
@[simp] theorem State.halt_pc (s : State) : s.halt.pc = s.pc := rfl
@[simp] theorem State.halt_flags (s : State) : s.halt.flags = s.flags := rfl
@[simp] theorem State.halt_inte (s : State) : s.halt.inte = s.inte := rfl
@[simp] theorem State.halt_mem (s : State) : s.halt.mem = s.mem := rfl
@[simp] theorem State.halt_status (s : State) : s.halt.status = .halted := rfl
@[simp] theorem State.halt_cfg (s : State) : s.halt.cfg = s.cfg := rfl

/-! ### addToA -/

@[simp] theorem State.addToA_sp (s : State) (v : Byte) (c : Bool) : (s.addToA v c).sp = s.sp := rfl
@[simp] theorem State.addToA_pc (s : State) (v : Byte) (c : Bool) : (s.addToA v c).pc = s.pc := rfl
@[simp] theorem State.addToA_inte (s : State) (v : Byte) (c : Bool) : (s.addToA v c).inte = s.inte := rfl
@[simp] theorem State.addToA_mem (s : State) (v : Byte) (c : Bool) : (s.addToA v c).mem = s.mem := rfl
@[simp] theorem State.addToA_status (s : State) (v : Byte) (c : Bool) : (s.addToA v c).status = s.status := rfl
@[simp] theorem State.addToA_cfg (s : State) (v : Byte) (c : Bool) : (s.addToA v c).cfg = s.cfg := rfl

/-! ### subFromA -/

@[simp] theorem State.subFromA_sp (s : State) (v : Byte) (c : Bool) : (s.subFromA v c).sp = s.sp := rfl
@[simp] theorem State.subFromA_pc (s : State) (v : Byte) (c : Bool) : (s.subFromA v c).pc = s.pc := rfl
@[simp] theorem State.subFromA_inte (s : State) (v : Byte) (c : Bool) : (s.subFromA v c).inte = s.inte := rfl
@[simp] theorem State.subFromA_mem (s : State) (v : Byte) (c : Bool) : (s.subFromA v c).mem = s.mem := rfl
@[simp] theorem State.subFromA_status (s : State) (v : Byte) (c : Bool) : (s.subFromA v c).status = s.status := rfl
@[simp] theorem State.subFromA_cfg (s : State) (v : Byte) (c : Bool) : (s.subFromA v c).cfg = s.cfg := rfl

/-! ### decimalAdjust -/

@[simp] theorem State.decimalAdjust_sp (s : State) : s.decimalAdjust.sp = s.sp := rfl
@[simp] theorem State.decimalAdjust_pc (s : State) : s.decimalAdjust.pc = s.pc := rfl
@[simp] theorem State.decimalAdjust_inte (s : State) : s.decimalAdjust.inte = s.inte := rfl
@[simp] theorem State.decimalAdjust_mem (s : State) : s.decimalAdjust.mem = s.mem := rfl
@[simp] theorem State.decimalAdjust_status (s : State) : s.decimalAdjust.status = s.status := rfl
@[simp] theorem State.decimalAdjust_cfg (s : State) : s.decimalAdjust.cfg = s.cfg := rfl

/-! ### logicToA -/

@[simp] theorem State.logicToA_regs (s : State) (t : Byte) : (s.logicToA t).regs = { s.regs with a := t } := rfl
@[simp] theorem State.logicToA_sp (s : State) (t : Byte) : (s.logicToA t).sp = s.sp := rfl
@[simp] theorem State.logicToA_pc (s : State) (t : Byte) : (s.logicToA t).pc = s.pc := rfl
@[simp] theorem State.logicToA_flags (s : State) (t : Byte) : (s.logicToA t).flags = s.flags.afterLogic t := rfl
@[simp] theorem State.logicToA_inte (s : State) (t : Byte) : (s.logicToA t).inte = s.inte := rfl
@[simp] theorem State.logicToA_mem (s : State) (t : Byte) : (s.logicToA t).mem = s.mem := rfl
@[simp] theorem State.logicToA_status (s : State) (t : Byte) : (s.logicToA t).status = s.status := rfl
@[simp] theorem State.logicToA_cfg (s : State) (t : Byte) : (s.logicToA t).cfg = s.cfg := rfl

/-! ### compareA -/

@[simp] theorem State.compareA_regs (s : State) (v : Byte) : (s.compareA v).regs = s.regs := rfl
@[simp] theorem State.compareA_sp (s : State) (v : Byte) : (s.compareA v).sp = s.sp := rfl
@[simp] theorem State.compareA_pc (s : State) (v : Byte) : (s.compareA v).pc = s.pc := rfl
@[simp] theorem State.compareA_inte (s : State) (v : Byte) : (s.compareA v).inte = s.inte := rfl
@[simp] theorem State.compareA_mem (s : State) (v : Byte) : (s.compareA v).mem = s.mem := rfl
@[simp] theorem State.compareA_status (s : State) (v : Byte) : (s.compareA v).status = s.status := rfl
@[simp] theorem State.compareA_cfg (s : State) (v : Byte) : (s.compareA v).cfg = s.cfg := rfl

/-! ### rotateA -/

@[simp] theorem State.rotateA_regs (s : State) (t : Byte) (cy : Bool) :
    (s.rotateA t cy).regs = { s.regs with a := t } :=
  rfl
@[simp] theorem State.rotateA_sp (s : State) (t : Byte) (cy : Bool) : (s.rotateA t cy).sp = s.sp := rfl
@[simp] theorem State.rotateA_pc (s : State) (t : Byte) (cy : Bool) : (s.rotateA t cy).pc = s.pc := rfl
@[simp] theorem State.rotateA_flags (s : State) (t : Byte) (cy : Bool) :
    (s.rotateA t cy).flags = s.flags.withCarry cy :=
  rfl
@[simp] theorem State.rotateA_inte (s : State) (t : Byte) (cy : Bool) : (s.rotateA t cy).inte = s.inte := rfl
@[simp] theorem State.rotateA_mem (s : State) (t : Byte) (cy : Bool) : (s.rotateA t cy).mem = s.mem := rfl
@[simp] theorem State.rotateA_status (s : State) (t : Byte) (cy : Bool) : (s.rotateA t cy).status = s.status := rfl
@[simp] theorem State.rotateA_cfg (s : State) (t : Byte) (cy : Bool) : (s.rotateA t cy).cfg = s.cfg := rfl

/-! ### setPair and setOperand8 -/

@[simp] theorem State.setPair_pc (s : State) (p : Pair) (v : Word16) : (s.setPair p v).pc = s.pc := by
  cases p <;> rfl
@[simp] theorem State.setPair_flags (s : State) (p : Pair) (v : Word16) : (s.setPair p v).flags = s.flags := by
  cases p <;> rfl
@[simp] theorem State.setPair_inte (s : State) (p : Pair) (v : Word16) : (s.setPair p v).inte = s.inte := by
  cases p <;> rfl
@[simp] theorem State.setPair_mem (s : State) (p : Pair) (v : Word16) : (s.setPair p v).mem = s.mem := by
  cases p <;> rfl
@[simp] theorem State.setPair_status (s : State) (p : Pair) (v : Word16) : (s.setPair p v).status = s.status := by
  cases p <;> rfl
@[simp] theorem State.setPair_cfg (s : State) (p : Pair) (v : Word16) : (s.setPair p v).cfg = s.cfg := by
  cases p <;> rfl
@[simp] theorem State.setOperand8_sp (s : State) (o : Operand8) (v : Byte) : (s.setOperand8 o v).sp = s.sp := by
  cases o <;> rfl
@[simp] theorem State.setOperand8_pc (s : State) (o : Operand8) (v : Byte) : (s.setOperand8 o v).pc = s.pc := by
  cases o <;> rfl
@[simp] theorem State.setOperand8_flags (s : State) (o : Operand8) (v : Byte) : (s.setOperand8 o v).flags = s.flags :=
  by
  cases o <;> rfl
@[simp] theorem State.setOperand8_inte (s : State) (o : Operand8) (v : Byte) : (s.setOperand8 o v).inte = s.inte := by
  cases o <;> rfl
@[simp] theorem State.setOperand8_status (s : State) (o : Operand8) (v : Byte) :
    (s.setOperand8 o v).status = s.status :=
  by
  cases o <;> rfl
@[simp] theorem State.setOperand8_cfg (s : State) (o : Operand8) (v : Byte) : (s.setOperand8 o v).cfg = s.cfg := by
  cases o <;> rfl

/-! ### Reading memory after an operation that does not store -/

@[simp] theorem State.readByte_advance (s : State) (len : Nat) (a : Word16) :
    (s.advance len).readByte a = s.readByte a := rfl
@[simp] theorem State.readByte_setReg (s : State) (r : Reg) (v : Byte) (a : Word16) :
    (s.setReg r v).readByte a = s.readByte a := rfl
@[simp] theorem State.readByte_dropTop (s : State) (a : Word16) : s.dropTop.readByte a = s.readByte a := rfl
@[simp] theorem State.readByte_setPair (s : State) (p : Pair) (v : Word16) (a : Word16) :
    (s.setPair p v).readByte a = s.readByte a := by cases p <;> rfl

/-- Everything `Push16` does to reading: the low byte at the new SP, the high byte above it. -/
theorem State.readByte_push16 (s : State) (v x : Word16) :
    (s.push16 v).readByte x =
      if x = s.sp - 2 + 1 then highByte v else if x = s.sp - 2 then lowByte v else s.readByte x :=
  State.readByte_writeWord { s with sp := s.sp - 2 } (s.sp - 2) x v

/-- What `Push16` pushed is on top of the stack. -/
theorem State.topOfStack_push16 (s : State) (v : Word16) : (s.push16 v).topOfStack = v :=
  State.readWord_writeWord { s with sp := s.sp - 2 } (s.sp - 2) v

/-! ### Registers and pairs through the accessors -/

@[simp] theorem RegFile.get_a (f : RegFile) : f.get .a = f.a := rfl
@[simp] theorem RegFile.get_b (f : RegFile) : f.get .b = f.b := rfl
@[simp] theorem RegFile.get_c (f : RegFile) : f.get .c = f.c := rfl
@[simp] theorem RegFile.get_d (f : RegFile) : f.get .d = f.d := rfl
@[simp] theorem RegFile.get_e (f : RegFile) : f.get .e = f.e := rfl
@[simp] theorem RegFile.get_h (f : RegFile) : f.get .h = f.h := rfl
@[simp] theorem RegFile.get_l (f : RegFile) : f.get .l = f.l := rfl

/-! ### The three results of a rule -/

/-- `complete` answers a next state and nothing else. -/
theorem complete_eq_next {len : Nat} {s t : State} : complete len s = .next t ↔ t = s.advance len := by
  simp [complete, eq_comm]

/-- `jumpTo` answers a next state and nothing else. -/
theorem jumpTo_eq_next {target : Word16} {s t : State} : jumpTo target s = .next t ↔ t = { s with pc := target } := by
  simp [jumpTo, eq_comm]

/-- Taking the exception answers a next state and nothing else. -/
theorem raiseUnimplemented_eq_next {opcode : Byte} {s t : State} :
    raiseUnimplemented opcode s = .next t ↔ t = { s with status := .faulted opcode s.pc } := by
  simp [raiseUnimplemented, eq_comm]

end Sys2Proof.Machine
end

