-- ==== Sys2Proof/Laws/Step.lean ====
section
/-! SUPPORT. Laws/Step.lean: what a step and a run can do. -/

namespace Sys2Proof.Machine

theorem step_of_running {s : State} (h : s.status = .running) : step s = exec s.fetch s := by simp [step, h]

/-- A step either executes the fetched instruction from Running, or leaves a terminal state as it is. -/
theorem step_cases {s t : State} (h : step s = .next t) :
    (s.status = .running ∧ exec s.fetch s = .next t) ∨ (s.status ≠ .running ∧ t = s) := by
  unfold step at h
  split at h
  · exact .inl ⟨by assumption, h⟩
  · exact .inr ⟨by simp [*], by simpa using h.symm⟩
  · exact .inr ⟨by simp [*], by simpa using h.symm⟩

/-- Everything a fetch can give, with the bytes it came from. -/
theorem fetch_cases (s : State) :
    (∃ i, descriptorOf s.opcodeByte = .bare i ∧ s.fetch = i) ∨
    (∃ k, descriptorOf s.opcodeByte = .withByte k ∧ s.fetch = k s.imm8) ∨
    (∃ k, descriptorOf s.opcodeByte = .withWord k ∧ s.fetch = k s.imm16) := by
  unfold State.fetch
  cases descriptorOf s.opcodeByte with
  | bare i => exact .inl ⟨i, rfl, rfl⟩
  | withByte k => exact .inr (.inl ⟨k, rfl, rfl⟩)
  | withWord k => exact .inr (.inr ⟨k, rfl, rfl⟩)

theorem not_running_iff {s : State} : s.status ≠ .running ↔ s.status.isTerminal = true := by
  cases h : s.status <;> simp [RunStatus.isTerminal]

theorem run_terminal {s : State} (h : s.status.isTerminal = true) (n : Nat) : run n s = some s := by
  cases n <;> simp [run, h]

/-- One unfolding of a run from a state that still runs. -/
theorem run_succ_of_running {s t : State} (h : s.status = .running) (hs : step s = .next t) (n : Nat) :
    run (n + 1) s = run n t := by
  simp [run, h, RunStatus.isTerminal, hs]

end Sys2Proof.Machine
end

