-- ==== Sys2Proof/Tests/Slice0.lean ====
section
/-! SUPPORT. Tests/Slice0.lean: the model's own tests. Expected values come from the encodings of 30_encoding.md (rule
R103), from the vectors of 95_test_vectors.md (named V<n>, in their own notation) and, for the witnesses, from the
statements of Certificates/Slice0/Obligations.lean whose hypotheses they meet. -/

namespace Sys2Proof.Tests

open Sys2Proof.Machine Sys2Proof.Claims

/-! ## Helpers -/

/-- A state of the conventions of 95_test_vectors.md: nothing set but pc and the instruction's bytes at pc. -/
def start (code : List Byte) (pc : Word16 := 0x0000) : State :=
  { State.reset with pc := pc, mem := Memory.writeBytes [] pc code }

/-- Registers by name, the others 0. -/
def regs (a b c d e h l : Byte := 0x00) : RegFile := { a := a, b := b, c := c, d := d, e := e, h := h, l := l }

/-- Flags as five bits in the order Z S P CY AC of the vectors. -/
def flags (z s p cy ac : Nat := 0) : Flags :=
  { z := z == 1, s := s == 1, p := p == 1, cy := cy == 1, ac := ac == 1 }

/-- The view `f` of the state after one step; none for a fault or a refusal. -/
def after {α : Type} (s : State) (f : State → α) : Option α :=
  match step s with
  | .next t => some (f t)
  | _ => none

/-- The word `w` decodes to `i` with nothing left, and is the encoding of `i`. -/
def isWordOf (w : List Byte) (i : Instr) : Bool :=
  encode i == w && match decode w with
    | .ok (j, []) => j == i
    | _ => false

/-! ## Well-formedness and rejected bytes -/

theorem test_wellFormed : Instr.wellFormed (.lxiB 0x1234) = true ∧ Instr.wellFormed .hlt = true := by decide

/-- An image one byte too long is refused (R454), one that just fits is not. -/
theorem test_ill_formed_image : imageFits 0xFFFF [0x00, 0x76] = false ∧ imageFits 0xFFFF [0x76] = true := by decide

theorem test_no_bytes_rejected : decode [] = .error .noBytes := rfl

theorem test_missing_operand_rejected :
    decode [0x3E] = .error (.operandMissing 0x3E) ∧ decode [0xC3] = .error (.operandMissing 0xC3) ∧
    decode [0xC3, 0x00] = .error (.operandMissing 0xC3) := ⟨rfl, rfl, rfl⟩

/-! ## Decoding: the word of every constructor, bit by bit from the spec's encoding of it -/

theorem test_decode_0 : [
    ([0b00000000], Instr.nop), ([0b00000001, 0x34, 0x12], Instr.lxiB 0x1234), ([0b00000010], Instr.staxB),
    ([0b00000011], Instr.inxB), ([0b00000100], Instr.inrB), ([0b00000101], Instr.dcrB),
    ([0b00000110, 0xAB], Instr.mviB 0xAB), ([0b00000111], Instr.rlc), ([0b00001000], Instr.reserved08),
    ([0b00001001], Instr.dadB), ([0b00001010], Instr.ldaxB), ([0b00001011], Instr.dcxB),
    ([0b00001100], Instr.inrC), ([0b00001101], Instr.dcrC), ([0b00001110, 0xAB], Instr.mviC 0xAB),
    ([0b00001111], Instr.rrc)
  ].all (fun e => isWordOf e.1 e.2) = true := by decide

theorem test_decode_1 : [
    ([0b00010000], Instr.reserved10), ([0b00010001, 0x34, 0x12], Instr.lxiD 0x1234), ([0b00010010], Instr.staxD),
    ([0b00010011], Instr.inxD), ([0b00010100], Instr.inrD), ([0b00010101], Instr.dcrD),
    ([0b00010110, 0xAB], Instr.mviD 0xAB), ([0b00010111], Instr.ral), ([0b00011000], Instr.reserved18),
    ([0b00011001], Instr.dadD), ([0b00011010], Instr.ldaxD), ([0b00011011], Instr.dcxD),
    ([0b00011100], Instr.inrE), ([0b00011101], Instr.dcrE), ([0b00011110, 0xAB], Instr.mviE 0xAB),
    ([0b00011111], Instr.rar)
  ].all (fun e => isWordOf e.1 e.2) = true := by decide

theorem test_decode_2 : [
    ([0b00100000], Instr.reserved20), ([0b00100001, 0x34, 0x12], Instr.lxiH 0x1234),
    ([0b00100010, 0x34, 0x12], Instr.shld 0x1234), ([0b00100011], Instr.inxH), ([0b00100100], Instr.inrH),
    ([0b00100101], Instr.dcrH), ([0b00100110, 0xAB], Instr.mviH 0xAB), ([0b00100111], Instr.daa),
    ([0b00101000], Instr.reserved28), ([0b00101001], Instr.dadH), ([0b00101010, 0x34, 0x12], Instr.lhld 0x1234),
    ([0b00101011], Instr.dcxH), ([0b00101100], Instr.inrL), ([0b00101101], Instr.dcrL),
    ([0b00101110, 0xAB], Instr.mviL 0xAB), ([0b00101111], Instr.cma)
  ].all (fun e => isWordOf e.1 e.2) = true := by decide

theorem test_decode_3 : [
    ([0b00110000], Instr.reserved30), ([0b00110001, 0x34, 0x12], Instr.lxiSP 0x1234),
    ([0b00110010, 0x34, 0x12], Instr.sta 0x1234), ([0b00110011], Instr.inxSP), ([0b00110100], Instr.inrM),
    ([0b00110101], Instr.dcrM), ([0b00110110, 0xAB], Instr.mviM 0xAB), ([0b00110111], Instr.stc),
    ([0b00111000], Instr.reserved38), ([0b00111001], Instr.dadSP), ([0b00111010, 0x34, 0x12], Instr.lda 0x1234),
    ([0b00111011], Instr.dcxSP), ([0b00111100], Instr.inrA), ([0b00111101], Instr.dcrA),
    ([0b00111110, 0xAB], Instr.mviA 0xAB), ([0b00111111], Instr.cmc)
  ].all (fun e => isWordOf e.1 e.2) = true := by decide

theorem test_decode_4 : [
    ([0b01000000], Instr.movBB), ([0b01000001], Instr.movBC), ([0b01000010], Instr.movBD),
    ([0b01000011], Instr.movBE), ([0b01000100], Instr.movBH), ([0b01000101], Instr.movBL),
    ([0b01000110], Instr.movBM), ([0b01000111], Instr.movBA), ([0b01001000], Instr.movCB),
    ([0b01001001], Instr.movCC), ([0b01001010], Instr.movCD), ([0b01001011], Instr.movCE),
    ([0b01001100], Instr.movCH), ([0b01001101], Instr.movCL), ([0b01001110], Instr.movCM),
    ([0b01001111], Instr.movCA)
  ].all (fun e => isWordOf e.1 e.2) = true := by decide

theorem test_decode_5 : [
    ([0b01010000], Instr.movDB), ([0b01010001], Instr.movDC), ([0b01010010], Instr.movDD),
    ([0b01010011], Instr.movDE), ([0b01010100], Instr.movDH), ([0b01010101], Instr.movDL),
    ([0b01010110], Instr.movDM), ([0b01010111], Instr.movDA), ([0b01011000], Instr.movEB),
    ([0b01011001], Instr.movEC), ([0b01011010], Instr.movED), ([0b01011011], Instr.movEE),
    ([0b01011100], Instr.movEH), ([0b01011101], Instr.movEL), ([0b01011110], Instr.movEM),
    ([0b01011111], Instr.movEA)
  ].all (fun e => isWordOf e.1 e.2) = true := by decide

theorem test_decode_6 : [
    ([0b01100000], Instr.movHB), ([0b01100001], Instr.movHC), ([0b01100010], Instr.movHD),
    ([0b01100011], Instr.movHE), ([0b01100100], Instr.movHH), ([0b01100101], Instr.movHL),
    ([0b01100110], Instr.movHM), ([0b01100111], Instr.movHA), ([0b01101000], Instr.movLB),
    ([0b01101001], Instr.movLC), ([0b01101010], Instr.movLD), ([0b01101011], Instr.movLE),
    ([0b01101100], Instr.movLH), ([0b01101101], Instr.movLL), ([0b01101110], Instr.movLM),
    ([0b01101111], Instr.movLA)
  ].all (fun e => isWordOf e.1 e.2) = true := by decide

theorem test_decode_7 : [
    ([0b01110000], Instr.movMB), ([0b01110001], Instr.movMC), ([0b01110010], Instr.movMD),
    ([0b01110011], Instr.movME), ([0b01110100], Instr.movMH), ([0b01110101], Instr.movML),
    ([0b01110110], Instr.hlt), ([0b01110111], Instr.movMA), ([0b01111000], Instr.movAB),
    ([0b01111001], Instr.movAC), ([0b01111010], Instr.movAD), ([0b01111011], Instr.movAE),
    ([0b01111100], Instr.movAH), ([0b01111101], Instr.movAL), ([0b01111110], Instr.movAM),
    ([0b01111111], Instr.movAA)
  ].all (fun e => isWordOf e.1 e.2) = true := by decide

theorem test_decode_8 : [
    ([0b10000000], Instr.addB), ([0b10000001], Instr.addC), ([0b10000010], Instr.addD), ([0b10000011], Instr.addE),
    ([0b10000100], Instr.addH), ([0b10000101], Instr.addL), ([0b10000110], Instr.addM), ([0b10000111], Instr.addA),
    ([0b10001000], Instr.adcB), ([0b10001001], Instr.adcC), ([0b10001010], Instr.adcD), ([0b10001011], Instr.adcE),
    ([0b10001100], Instr.adcH), ([0b10001101], Instr.adcL), ([0b10001110], Instr.adcM), ([0b10001111], Instr.adcA)
  ].all (fun e => isWordOf e.1 e.2) = true := by decide

theorem test_decode_9 : [
    ([0b10010000], Instr.subB), ([0b10010001], Instr.subC), ([0b10010010], Instr.subD), ([0b10010011], Instr.subE),
    ([0b10010100], Instr.subH), ([0b10010101], Instr.subL), ([0b10010110], Instr.subM), ([0b10010111], Instr.subA),
    ([0b10011000], Instr.sbbB), ([0b10011001], Instr.sbbC), ([0b10011010], Instr.sbbD), ([0b10011011], Instr.sbbE),
    ([0b10011100], Instr.sbbH), ([0b10011101], Instr.sbbL), ([0b10011110], Instr.sbbM), ([0b10011111], Instr.sbbA)
  ].all (fun e => isWordOf e.1 e.2) = true := by decide

theorem test_decode_A : [
    ([0b10100000], Instr.anaB), ([0b10100001], Instr.anaC), ([0b10100010], Instr.anaD), ([0b10100011], Instr.anaE),
    ([0b10100100], Instr.anaH), ([0b10100101], Instr.anaL), ([0b10100110], Instr.anaM), ([0b10100111], Instr.anaA),
    ([0b10101000], Instr.xraB), ([0b10101001], Instr.xraC), ([0b10101010], Instr.xraD), ([0b10101011], Instr.xraE),
    ([0b10101100], Instr.xraH), ([0b10101101], Instr.xraL), ([0b10101110], Instr.xraM), ([0b10101111], Instr.xraA)
  ].all (fun e => isWordOf e.1 e.2) = true := by decide

theorem test_decode_B : [
    ([0b10110000], Instr.oraB), ([0b10110001], Instr.oraC), ([0b10110010], Instr.oraD), ([0b10110011], Instr.oraE),
    ([0b10110100], Instr.oraH), ([0b10110101], Instr.oraL), ([0b10110110], Instr.oraM), ([0b10110111], Instr.oraA),
    ([0b10111000], Instr.cmpB), ([0b10111001], Instr.cmpC), ([0b10111010], Instr.cmpD), ([0b10111011], Instr.cmpE),
    ([0b10111100], Instr.cmpH), ([0b10111101], Instr.cmpL), ([0b10111110], Instr.cmpM), ([0b10111111], Instr.cmpA)
  ].all (fun e => isWordOf e.1 e.2) = true := by decide

theorem test_decode_C : [
    ([0b11000000], Instr.rnz), ([0b11000001], Instr.popB), ([0b11000010, 0x34, 0x12], Instr.jnz 0x1234),
    ([0b11000011, 0x34, 0x12], Instr.jmp 0x1234), ([0b11000100, 0x34, 0x12], Instr.cnz 0x1234),
    ([0b11000101], Instr.pushB), ([0b11000110, 0xAB], Instr.adi 0xAB), ([0b11000111], Instr.rst0),
    ([0b11001000], Instr.rz), ([0b11001001], Instr.ret), ([0b11001010, 0x34, 0x12], Instr.jz 0x1234),
    ([0b11001011], Instr.reservedCB), ([0b11001100, 0x34, 0x12], Instr.cz 0x1234),
    ([0b11001101, 0x34, 0x12], Instr.call 0x1234), ([0b11001110, 0xAB], Instr.aci 0xAB), ([0b11001111], Instr.rst1)
  ].all (fun e => isWordOf e.1 e.2) = true := by decide

theorem test_decode_D : [
    ([0b11010000], Instr.rnc), ([0b11010001], Instr.popD), ([0b11010010, 0x34, 0x12], Instr.jnc 0x1234),
    ([0b11010011, 0xAB], Instr.outPort 0xAB), ([0b11010100, 0x34, 0x12], Instr.cnc 0x1234),
    ([0b11010101], Instr.pushD), ([0b11010110, 0xAB], Instr.sui 0xAB), ([0b11010111], Instr.rst2),
    ([0b11011000], Instr.rc), ([0b11011001], Instr.reservedD9), ([0b11011010, 0x34, 0x12], Instr.jc 0x1234),
    ([0b11011011, 0xAB], Instr.inPort 0xAB), ([0b11011100, 0x34, 0x12], Instr.cc 0x1234),
    ([0b11011101], Instr.reservedDD), ([0b11011110, 0xAB], Instr.sbi 0xAB), ([0b11011111], Instr.rst3)
  ].all (fun e => isWordOf e.1 e.2) = true := by decide

theorem test_decode_E : [
    ([0b11100000], Instr.rpo), ([0b11100001], Instr.popH), ([0b11100010, 0x34, 0x12], Instr.jpo 0x1234),
    ([0b11100011], Instr.xthl), ([0b11100100, 0x34, 0x12], Instr.cpo 0x1234), ([0b11100101], Instr.pushH),
    ([0b11100110, 0xAB], Instr.ani 0xAB), ([0b11100111], Instr.rst4), ([0b11101000], Instr.rpe),
    ([0b11101001], Instr.pchl), ([0b11101010, 0x34, 0x12], Instr.jpe 0x1234), ([0b11101011], Instr.xchg),
    ([0b11101100, 0x34, 0x12], Instr.cpe 0x1234), ([0b11101101], Instr.reservedED),
    ([0b11101110, 0xAB], Instr.xri 0xAB), ([0b11101111], Instr.rst5)
  ].all (fun e => isWordOf e.1 e.2) = true := by decide

theorem test_decode_F : [
    ([0b11110000], Instr.rp), ([0b11110001], Instr.popPSW), ([0b11110010, 0x34, 0x12], Instr.jp 0x1234),
    ([0b11110011], Instr.di), ([0b11110100, 0x34, 0x12], Instr.cp 0x1234), ([0b11110101], Instr.pushPSW),
    ([0b11110110, 0xAB], Instr.ori 0xAB), ([0b11110111], Instr.rst6), ([0b11111000], Instr.rm),
    ([0b11111001], Instr.sphl), ([0b11111010, 0x34, 0x12], Instr.jm 0x1234), ([0b11111011], Instr.ei),
    ([0b11111100, 0x34, 0x12], Instr.cm 0x1234), ([0b11111101], Instr.reservedFD),
    ([0b11111110, 0xAB], Instr.cpi 0xAB), ([0b11111111], Instr.rst7)
  ].all (fun e => isWordOf e.1 e.2) = true := by decide

/-- The host's numbering of a table word: the second byte in bits 15..8, absent operand bytes 0. -/
theorem test_decodeTableWord :
    decodeTableWord 8 0x78 = some .movAB ∧ decodeTableWord 16 0xAB3E = some (.mviA 0xAB) ∧
    decodeTableWord 24 0x1234C3 = some (.jmp 0x1234) ∧ decodeTableWord 8 0xC3 = some (.jmp 0x0000) := by decide

/-- From reset, the very next step runs the placed word. -/
theorem test_withFetchWord :
    after (State.reset.withFetchWord 24 0x1234C3) State.pc = some 0x1234 ∧
    after (State.reset.withFetchWord 16 0xAB3E) (fun t => (t.regs.a, t.pc)) = some (0xAB, 0x0002) := by decide

/-! ## One step of each instruction form: the vectors of 95_test_vectors.md -/

theorem test_V1_MOV_B_B : after ({ start [0x40] with regs := regs (b := 0x77), flags := flags (cy := 1) })
    (fun t => (t.regs.b, t.pc)) = some (0x77, 0x0001) := by decide

theorem test_V2_MOV_E_A : after ({ start [0x5F] with regs := regs (a := 0x9C) })
    (fun t => (t.regs.e, t.pc)) = some (0x9C, 0x0001) := by decide

theorem test_V3_MOV_A_M : after (({ start [0x7E] with regs := regs (h := 0xFF) (l := 0xFF) }).writeByte 0xFFFF 0x3C)
    (fun t => (t.regs.a, t.pc)) = some (0x3C, 0x0001) := by decide

theorem test_V4_MOV_M_L : after ({ start [0x75] with regs := regs (h := 0x12) (l := 0x34) })
    (fun t => (t.readByte 0x1234, t.pc)) = some (0x34, 0x0001) := by decide

theorem test_V6_MVI_C : after (start [0x0E, 0x80]) (fun t => (t.regs.c, t.pc)) = some (0x80, 0x0002) := by decide

theorem test_V7_MVI_M : after ({ start [0x36, 0xAB] with regs := regs (h := 0x30) })
    (fun t => (t.readByte 0x3000, t.pc)) = some (0xAB, 0x0002) := by decide

theorem test_V8_MVI_A : after ((start [0x3E] 0xFFFF).writeByte 0x0000 0x99)
    (fun t => (t.regs.a, t.pc)) = some (0x99, 0x0001) := by decide

theorem test_V9_LXI_SP : after (start [0x31, 0x00, 0xF0]) (fun t => (t.sp, t.pc)) = some (0xF000, 0x0003) := by decide

theorem test_V11_LXI_D : after (((start [0x11] 0xFFFE).writeByte 0x0000 0x12).writeByte 0xFFFF 0x34)
    (fun t => (t.regs.d, t.regs.e, t.pc)) = some (0x12, 0x34, 0x0001) := by decide

theorem test_V12_LDAX_D : after (({ start [0x1A] with regs := regs (d := 0x40) (e := 0x01) }).writeByte 0x4001 0x5A)
    (fun t => (t.regs.a, t.pc)) = some (0x5A, 0x0001) := by decide

theorem test_V13_STAX_B : after ({ start [0x02] with regs := regs (a := 0xC3) })
    (fun t => (t.readByte 0x0000, t.pc)) = some (0xC3, 0x0001) := by decide

theorem test_V14_LDA : after ((start [0x3A, 0xFF, 0xFF]).writeByte 0xFFFF 0x81)
    (fun t => (t.regs.a, t.pc)) = some (0x81, 0x0003) := by decide

theorem test_V15_STA : after ({ start [0x32, 0x00, 0x00] 0x0100 with regs := regs (a := 0x44) })
    (fun t => (t.readByte 0x0000, t.pc)) = some (0x44, 0x0103) := by decide

theorem test_V16_LHLD : after (((start [0x2A, 0xFF, 0xFF] 0x0100).writeByte 0x0000 0xAB).writeByte 0xFFFF 0xCD)
    (fun t => (t.regs.h, t.regs.l, t.pc)) = some (0xAB, 0xCD, 0x0103) := by decide

theorem test_V17_SHLD : after ({ start [0x22, 0xFF, 0xFF] 0x0100 with regs := regs (h := 0x12) (l := 0x34) })
    (fun t => (t.readByte 0x0000, t.readByte 0xFFFF, t.pc)) = some (0x12, 0x34, 0x0103) := by decide

theorem test_V18_SHLD : after ({ start [0x22, 0x01, 0x01] 0x0100 with regs := regs (h := 0x77) (l := 0x66) })
    (fun t => (t.readByte 0x0101, t.readByte 0x0102, t.pc)) = some (0x66, 0x77, 0x0103) := by decide

theorem test_V19_XCHG : after ({ start [0xEB] with regs := regs (d := 0x11) (e := 0x22) (h := 0x33) (l := 0x44) })
    (fun t => (t.regs.d, t.regs.e, t.regs.h, t.regs.l, t.pc)) =
    some (0x33, 0x44, 0x11, 0x22, 0x0001) := by decide

theorem test_V20_XTHL :
    after ((({ start [0xE3] 0x0100 with regs := regs (h := 0x12) (l := 0x34), sp := 0xFFFF }).writeByte
      0x0000 0x56).writeByte 0xFFFF 0x78)
      (fun t => (t.regs.h, t.regs.l, t.readByte 0x0000, t.readByte 0xFFFF, t.pc)) =
      some (0x56, 0x78, 0x12, 0x34, 0x0101) := by decide

theorem test_V21_ADD_A : after ({ start [0x87] with regs := regs (a := 0x80) })
    (fun t => (t.regs.a, t.flags, t.pc)) = some (0x00, flags (z := 1) (p := 1) (cy := 1), 0x0001) := by decide

theorem test_V22_ADD_B : after ({ start [0x80] with regs := regs (a := 0x0F) (b := 0x01) })
    (fun t => (t.regs.a, t.flags, t.pc)) = some (0x10, flags (ac := 1), 0x0001) := by decide

theorem test_V23_ADD_B : after ({ start [0x80] with regs := regs (a := 0x0E) (b := 0x01) })
    (fun t => (t.regs.a, t.flags, t.pc)) = some (0x0F, flags (p := 1), 0x0001) := by decide

theorem test_V24_SUB_A : after ({ start [0x97] with regs := regs (a := 0x3E), flags := flags (cy := 1) (ac := 1) })
    (fun t => (t.regs.a, t.flags, t.pc)) = some (0x00, flags (z := 1) (p := 1), 0x0001) := by decide

theorem test_V27_ADD_M : after (({ start [0x86] with regs := regs (a := 0x7F) (h := 0x20) }).writeByte 0x2000 0x01)
    (fun t => (t.regs.a, t.flags, t.pc)) = some (0x80, flags (s := 1) (ac := 1), 0x0001) := by decide

theorem test_V28_ADC_C : after ({ start [0x89] with regs := regs (a := 0x0F), flags := flags (cy := 1) })
    (fun t => (t.regs.a, t.flags, t.pc)) = some (0x10, flags (ac := 1), 0x0001) := by decide

theorem test_V29_ADC_B : after ({ start [0x88] with regs := regs (a := 0xFF) (b := 0xFF), flags := flags (cy := 1) })
    (fun t => (t.flags, t.pc)) = some (flags (s := 1) (p := 1) (cy := 1) (ac := 1), 0x0001) := by decide

theorem test_V31_SUB_B : after ({ start [0x90] with regs := regs (b := 0x01) })
    (fun t => (t.regs.a, t.flags, t.pc)) = some (0xFF, flags (s := 1) (p := 1) (cy := 1), 0x0001) := by decide

theorem test_V32_SUB_C : after ({ start [0x91] with regs := regs (a := 0x80) (c := 0x01) })
    (fun t => (t.regs.a, t.pc)) = some (0x7F, 0x0001) := by decide

theorem test_V33_SBB_B : after ({ start [0x98] with regs := regs (a := 0xFF) (b := 0xFF), flags := flags (cy := 1) })
    (fun t => (t.flags, t.pc)) = some (flags (s := 1) (p := 1) (cy := 1), 0x0001) := by decide

theorem test_V34_SBB_A : after ({ start [0x9F] with regs := regs (a := 0x12), flags := flags (cy := 1) })
    (fun t => (t.regs.a, t.flags, t.pc)) = some (0xFF, flags (s := 1) (p := 1) (cy := 1), 0x0001) := by decide

theorem test_V35_SBB_M : after (({ start [0x9E] with regs := regs (a := 0x10) (h := 0x20) }).writeByte 0x2000 0x01)
    (fun t => (t.regs.a, t.flags, t.pc)) = some (0x0F, flags (p := 1), 0x0001) := by decide

theorem test_V36_ADI : after ({ start [0xC6, 0x01] with regs := regs (a := 0xFF) })
    (fun t => (t.regs.a, t.flags, t.pc)) =
    some (0x00, flags (z := 1) (p := 1) (cy := 1) (ac := 1), 0x0002) := by decide

theorem test_V37_ACI : after ({ start [0xCE, 0x00] with regs := regs (a := 0x0F), flags := flags (cy := 1) })
    (fun t => (t.regs.a, t.flags, t.pc)) = some (0x10, flags (ac := 1), 0x0002) := by decide

theorem test_V38_SUI : after ({ start [0xD6, 0x00] with flags := flags (cy := 1) })
    (fun t => (t.flags, t.pc)) = some (flags (z := 1) (p := 1), 0x0002) := by decide

theorem test_V39_SBI : after ({ start [0xDE, 0x00] with flags := flags (cy := 1) })
    (fun t => (t.regs.a, t.flags, t.pc)) = some (0xFF, flags (s := 1) (p := 1) (cy := 1), 0x0002) := by decide

theorem test_V40_INR_A : after ({ start [0x3C] with regs := regs (a := 0x7F), flags := flags (cy := 1) })
    (fun t => (t.regs.a, t.flags, t.pc)) =
    some (0x80, flags (s := 1) (cy := 1) (ac := 1), 0x0001) := by decide

theorem test_V41_INR_L : after ({ start [0x2C] with regs := regs (h := 0x12) (l := 0xFF) })
    (fun t => (t.regs.l, t.flags, t.pc)) = some (0x00, flags (z := 1) (p := 1) (ac := 1), 0x0001) := by decide

theorem test_V42_DCR_B : after ({ start [0x05] with flags := flags (cy := 1) (ac := 1) })
    (fun t => (t.regs.b, t.flags, t.pc)) = some (0xFF, flags (s := 1) (p := 1) (cy := 1), 0x0001) := by decide

theorem test_V44_INR_M : after (({ start [0x34] with regs := regs (h := 0x30) }).writeByte 0x3000 0xFF)
    (fun t => (t.readByte 0x3000, t.flags, t.pc)) =
    some (0x00, flags (z := 1) (p := 1) (ac := 1), 0x0001) := by decide

theorem test_V45_DCR_M : after (({ start [0x35] with regs := regs (h := 0x30) }).writeByte 0x3000 0x01)
    (fun t => (t.readByte 0x3000, t.flags, t.pc)) = some (0x00, flags (z := 1) (p := 1), 0x0001) := by decide

theorem test_V46_INX_B :
    after ({ start [0x03] with regs := regs (b := 0xFF) (c := 0xFF), flags := flags (z := 1) (cy := 1) })
      (fun t => (t.regs.b, t.regs.c, t.pc)) = some (0x00, 0x00, 0x0001) := by decide

theorem test_V47_DCX_D : after (start [0x1B])
    (fun t => (t.regs.d, t.regs.e, t.pc)) = some (0xFF, 0xFF, 0x0001) := by decide

theorem test_V48_INX_SP : after ({ start [0x33] with sp := 0xFFFF })
    (fun t => (t.sp, t.pc)) = some (0x0000, 0x0001) := by decide

theorem test_V49_DCX_H : after ({ start [0x2B] with regs := regs (h := 0x01) })
    (fun t => (t.regs.h, t.regs.l, t.pc)) = some (0x00, 0xFF, 0x0001) := by decide

theorem test_V50_DAD_B : after ({ start [0x09] with regs := regs (c := 0x01) (h := 0xFF) (l := 0xFF) })
    (fun t => (t.regs.h, t.regs.l, t.flags, t.pc)) = some (0x00, 0x00, flags (cy := 1), 0x0001) := by decide

theorem test_V52_DAD_D :
    after ({ start [0x19] with regs := regs (d := 0x11) (e := 0x11) (h := 0x12) (l := 0x34), flags := flags (cy := 1) })
      (fun t => (t.regs.h, t.regs.l, t.flags, t.pc)) = some (0x23, 0x45, flags, 0x0001) := by decide

theorem test_V53_DAD_SP : after ({ start [0x39] with regs := regs (l := 0x10), sp := 0xFFF0 })
    (fun t => (t.regs.l, t.flags, t.pc)) = some (0x00, flags (cy := 1), 0x0001) := by decide

theorem test_V54_DAA : after ({ start [0x27] with regs := regs (a := 0x9B) })
    (fun t => (t.regs.a, t.flags, t.pc)) = some (0x01, flags (cy := 1) (ac := 1), 0x0001) := by decide

theorem test_V55_DAA : after ({ start [0x27] with regs := regs (a := 0x41), flags := flags (ac := 1) })
    (fun t => (t.regs.a, t.flags, t.pc)) = some (0x47, flags (p := 1), 0x0001) := by decide

theorem test_V57_DAA : after ({ start [0x27] with flags := flags (cy := 1) })
    (fun t => (t.regs.a, t.flags, t.pc)) = some (0x60, flags (p := 1) (cy := 1), 0x0001) := by decide

theorem test_V59_DAA :
    after ({ start [0x27] 0x0040 with regs := regs (a := 0x9A), cfg := ⟨.fault, .fault⟩ })
      (fun t => (t.pc, t.status)) = some (0x0040, .faulted 0x27 0x0040) := by decide

theorem test_V60_ANA_B :
    after ({ start [0xA0] with regs := regs (a := 0xAA) (b := 0x0F), flags := flags (cy := 1) (ac := 1) })
      (fun t => (t.regs.a, t.flags, t.pc)) = some (0x0A, flags (p := 1), 0x0001) := by decide

theorem test_V61_ANA_M : after (({ start [0xA6] with regs := regs (a := 0xFF) (h := 0x20) }).writeByte 0x2000 0x80)
    (fun t => (t.regs.a, t.flags, t.pc)) = some (0x80, flags (s := 1), 0x0001) := by decide

theorem test_V62_XRA_A : after ({ start [0xAF] with regs := regs (a := 0x5A), flags := flags (s := 1) (cy := 1) })
    (fun t => (t.regs.a, t.flags, t.pc)) = some (0x00, flags (z := 1) (p := 1), 0x0001) := by decide

theorem test_V63_XRA_M : after (({ start [0xAE] with regs := regs (a := 0x0F) (h := 0x20) }).writeByte 0x2000 0xF0)
    (fun t => (t.regs.a, t.flags, t.pc)) = some (0xFF, flags (s := 1) (p := 1), 0x0001) := by decide

theorem test_V64_ORA_A : after ({ start [0xB7] with flags := flags (cy := 1) })
    (fun t => (t.flags, t.pc)) = some (flags (z := 1) (p := 1), 0x0001) := by decide

theorem test_V65_ORA_M : after (({ start [0xB6] with regs := regs (a := 0x01) (h := 0x20) }).writeByte 0x2000 0x02)
    (fun t => (t.regs.a, t.flags, t.pc)) = some (0x03, flags (p := 1), 0x0001) := by decide

theorem test_V67_CMP_C : after ({ start [0xB9] with regs := regs (c := 0x01) })
    (fun t => (t.flags, t.pc)) = some (flags (s := 1) (p := 1) (cy := 1), 0x0001) := by decide

theorem test_V68_CMP_D : after ({ start [0xBA] with regs := regs (a := 0x80) (d := 0x7F) })
    (fun t => (t.pc)) = some (0x0001) := by decide

theorem test_V69_CMP_M : after (({ start [0xBE] with regs := regs (a := 0x01) (h := 0x20) }).writeByte 0x2000 0xFF)
    (fun t => (t.flags, t.pc)) = some (flags (cy := 1), 0x0001) := by decide

theorem test_V70_ANI :
    after ({ start [0xE6, 0x00] with regs := regs (a := 0xFF), flags := flags (cy := 1) (ac := 1) })
      (fun t => (t.regs.a, t.flags, t.pc)) = some (0x00, flags (z := 1) (p := 1), 0x0002) := by decide

theorem test_V71_XRI : after ({ start [0xEE, 0xFF] with regs := regs (a := 0x0F) })
    (fun t => (t.regs.a, t.flags, t.pc)) = some (0xF0, flags (s := 1) (p := 1), 0x0002) := by decide

theorem test_V72_ORI : after ({ start [0xF6, 0x80] with regs := regs (a := 0x01) })
    (fun t => (t.regs.a, t.flags, t.pc)) = some (0x81, flags (s := 1) (p := 1), 0x0002) := by decide

theorem test_V74_CPI : after (start [0xFE, 0x01])
    (fun t => (t.flags, t.pc)) = some (flags (s := 1) (p := 1) (cy := 1), 0x0002) := by decide

theorem test_V91_JMP : after (start [0xC3, 0xFF, 0xFF] 0x0100) (fun t => (t.pc)) = some (0xFFFF) := by decide

theorem test_V92_JMP : after (start [0xC3, 0x34, 0x12] 0xFFFD) (fun t => (t.pc)) = some (0x1234) := by decide

theorem test_V93_PCHL : after (start [0xE9] 0x0100) (fun t => (t.pc)) = some (0x0000) := by decide

theorem test_V94_CALL : after (start [0xCD, 0x00, 0x02] 0x0100)
    (fun t => (t.readByte 0xFFFE, t.readByte 0xFFFF, t.sp, t.pc)) =
    some (0x03, 0x01, 0xFFFE, 0x0200) := by decide

theorem test_V95_CALL :
    after ((({ start [0xCD, 0x00, 0x02] 0xFFFD with sp := 0x8000 }).writeByte 0x7FFE 0xEE).writeByte 0x7FFF 0xEE)
      (fun t => (t.readByte 0x7FFE, t.readByte 0x7FFF, t.sp, t.pc)) =
      some (0x00, 0x00, 0x7FFE, 0x0200) := by decide

theorem test_V96_CALL : after ({ start [0xCD, 0x00, 0x02] 0x0100 with sp := 0x0001 })
    (fun t => (t.readByte 0x0000, t.readByte 0xFFFF, t.sp, t.pc)) =
    some (0x01, 0x03, 0xFFFF, 0x0200) := by decide

theorem test_V113_RET :
    after ((({ start [0xC9] 0x0200 with sp := 0x1FFE }).writeByte 0x1FFE 0x03).writeByte 0x1FFF 0x01)
      (fun t => (t.sp, t.pc)) = some (0x2000, 0x0103) := by decide

theorem test_V114_RET :
    after ((({ start [0xC9] 0x0200 with sp := 0xFFFF }).writeByte 0x0000 0x12).writeByte 0xFFFF 0x34)
      (fun t => (t.sp, t.pc)) = some (0x0001, 0x1234) := by decide

theorem test_V139_PUSH_D : after ({ start [0xD5] with regs := regs (d := 0xAB) (e := 0xCD), sp := 0x2000 })
    (fun t => (t.readByte 0x1FFE, t.readByte 0x1FFF, t.sp, t.pc)) =
    some (0xCD, 0xAB, 0x1FFE, 0x0001) := by decide

theorem test_V140_PUSH_H : after ({ start [0xE5] 0x0100 with regs := regs (h := 0x12) (l := 0x34) })
    (fun t => (t.readByte 0xFFFE, t.readByte 0xFFFF, t.sp, t.pc)) =
    some (0x34, 0x12, 0xFFFE, 0x0101) := by decide

theorem test_V141_POP_B : after ((({ start [0xC1] with sp := 0x1FFE }).writeByte 0x1FFE 0xCD).writeByte 0x1FFF 0xAB)
    (fun t => (t.regs.b, t.regs.c, t.sp, t.pc)) = some (0xAB, 0xCD, 0x2000, 0x0001) := by decide

theorem test_V142_POP_D :
    after ((({ start [0xD1] 0x0100 with sp := 0xFFFF }).writeByte 0x0000 0x12).writeByte 0xFFFF 0x34)
      (fun t => (t.regs.d, t.regs.e, t.sp, t.pc)) = some (0x12, 0x34, 0x0001, 0x0101) := by decide

theorem test_V143_PUSH_PSW :
    after ({ start [0xF5] with regs := regs (a := 0xFF), sp := 0x2000, flags := flags 1 1 1 1 1 })
      (fun t => (t.readByte 0x1FFE, t.readByte 0x1FFF, t.sp, t.flags, t.pc)) =
      some (0x1F, 0xFF, 0x1FFE, flags 1 1 1 1 1, 0x0001) := by decide

theorem test_V145_POP_PSW : after ((({ start [0xF1] with sp := 0x1FFE }).writeByte 0x1FFE 0xFF).writeByte 0x1FFF 0x80)
    (fun t => (t.regs.a, t.sp, t.flags, t.pc)) =
    some (0x80, 0x2000, flags 1 1 1 1 1, 0x0001) := by decide

theorem test_V147_POP_PSW : after ((({ start [0xF1] with sp := 0x1FFE }).writeByte 0x1FFE 0x12).writeByte 0x1FFF 0x00)
    (fun t => (t.sp, t.flags, t.pc)) = some (0x2000, flags (s := 1) (ac := 1), 0x0001) := by decide

theorem test_V148_SPHL : after ({ start [0xF9] with regs := regs (h := 0xFF) (l := 0xFF) })
    (fun t => (t.sp, t.pc)) = some (0xFFFF, 0x0001) := by decide

theorem test_V149_HLT : after ({ start [0x76] 0x0010 with regs := regs (a := 0x12) })
    (fun t => (t.pc, t.status)) = some (0x0011, .halted) := by decide

theorem test_V150_EI : after (start [0xFB]) (fun t => (t.inte, t.pc)) = some (true, 0x0001) := by decide

theorem test_V151_DI : after ({ start [0xF3] with inte := true })
    (fun t => (t.inte, t.pc)) = some (false, 0x0001) := by decide

theorem test_V152_CMA : after ({ start [0x2F] with flags := flags (z := 1) })
    (fun t => (t.regs.a, t.pc)) = some (0xFF, 0x0001) := by decide

theorem test_V153_CMC : after (start [0x3F]) (fun t => (t.flags, t.pc)) = some (flags (cy := 1), 0x0001) := by decide

theorem test_V154_STC : after ({ start [0x37] with flags := flags (cy := 1) })
    (fun t => (t.pc)) = some (0x0001) := by decide

theorem test_V155_RLC : after ({ start [0x07] with regs := regs (a := 0x80) })
    (fun t => (t.regs.a, t.flags, t.pc)) = some (0x01, flags (cy := 1), 0x0001) := by decide

theorem test_V156_RRC : after ({ start [0x0F] with regs := regs (a := 0x01) })
    (fun t => (t.regs.a, t.flags, t.pc)) = some (0x80, flags (cy := 1), 0x0001) := by decide

theorem test_V158_RAL : after ({ start [0x17] with flags := flags (cy := 1) })
    (fun t => (t.regs.a, t.flags, t.pc)) = some (0x01, flags, 0x0001) := by decide

theorem test_V159_RAR : after ({ start [0x1F] with regs := regs (a := 0x01) })
    (fun t => (t.regs.a, t.flags, t.pc)) = some (0x00, flags (cy := 1), 0x0001) := by decide

theorem test_V160_RAR : after ({ start [0x1F] with flags := flags (cy := 1) })
    (fun t => (t.regs.a, t.flags, t.pc)) = some (0x80, flags, 0x0001) := by decide

theorem test_V161_RLC : after ({ start [0x07] with flags := flags (z := 1) })
    (fun t => (t.flags, t.pc)) = some (flags (z := 1), 0x0001) := by decide

theorem test_V162_NOP : after (start [0x00] 0xFFFF) (fun t => (t.pc)) = some (0x0000) := by decide

theorem test_V163_IN : after ({ start [0xDB, 0xFF] with regs := regs (a := 0x5A) })
    (fun t => (t.regs.a, t.pc)) = some (0x5A, 0x0002) := by decide

theorem test_V164_OUT : after ({ start [0xD3, 0x00] with regs := regs (a := 0x5A) })
    (fun t => (t.regs.a, t.pc)) = some (0x5A, 0x0002) := by decide

theorem test_V177_reserved_NoOp :
    after ({ start [0xCB, 0x00, 0x10] 0x0200 with cfg := { reservedPolicy := .noOp1, daaMode := .reference } })
      (fun t => (t.pc)) = some (0x0201) := by decide

theorem test_V178_reserved_NoOp :
    after ({ start [0x08] 0xFFFF with cfg := { reservedPolicy := .noOp1, daaMode := .reference } })
      (fun t => (t.pc)) = some (0x0000) := by decide

theorem test_V179_Halted : after ({ start [0x3C] 0x0011 with regs := regs (a := 0x01), status := .halted })
    (fun t => (t.pc, t.status)) = some (0x0011, .halted) := by decide

theorem test_V180_Faulted : after ({ start [0x08] 0x0200 with status := .faulted 0x08 0x0200 })
    (fun t => (t.pc, t.status)) = some (0x0200, .faulted 0x08 0x0200) := by decide

/-- V75 to V90: every condition of Jcc, false and true. -/
theorem test_V75_to_V90_Jcc : ([
    (0xC2, flags, 0x0200), (0xC2, flags (z := 1), 0x0103), (0xCA, flags, 0x0103), (0xCA, flags (z := 1), 0x0200),
    (0xD2, flags, 0x0200), (0xD2, flags (cy := 1), 0x0103), (0xDA, flags, 0x0103), (0xDA, flags (cy := 1), 0x0200),
    (0xE2, flags, 0x0200), (0xE2, flags (p := 1), 0x0103), (0xEA, flags, 0x0103), (0xEA, flags (p := 1), 0x0200),
    (0xF2, flags, 0x0200), (0xF2, flags (s := 1), 0x0103), (0xFA, flags, 0x0103), (0xFA, flags (s := 1), 0x0200)] :
    List (Byte × Flags × Word16)).all (fun e =>
    decide (after { start [e.1, 0x00, 0x02] 0x0100 with flags := e.2.1 } (fun t => (t.flags, t.pc)) =
      some e.2)) = true := by decide

/-- V97 to V112: every condition of Ccc, false and true. -/
theorem test_V97_to_V112_Ccc : ([
    (0xC4, flags (z := 1), 0x2000, 0x0103), (0xC4, flags, 0x1FFE, 0x0200), (0xCC, flags, 0x2000, 0x0103),
    (0xCC, flags (z := 1), 0x1FFE, 0x0200), (0xD4, flags (cy := 1), 0x2000, 0x0103), (0xD4, flags, 0x1FFE, 0x0200),
    (0xDC, flags, 0x2000, 0x0103), (0xDC, flags (cy := 1), 0x1FFE, 0x0200), (0xE4, flags (p := 1), 0x2000, 0x0103),
    (0xE4, flags, 0x1FFE, 0x0200), (0xEC, flags, 0x2000, 0x0103), (0xEC, flags (p := 1), 0x1FFE, 0x0200),
    (0xF4, flags (s := 1), 0x2000, 0x0103), (0xF4, flags, 0x1FFE, 0x0200), (0xFC, flags, 0x2000, 0x0103),
    (0xFC, flags (s := 1), 0x1FFE, 0x0200)] :
    List (Byte × Flags × Word16 × Word16)).all (fun e =>
    decide (after { start [e.1, 0x00, 0x02] 0x0100 with sp := 0x2000, flags := e.2.1 }
      (fun t => (t.flags, t.sp, t.pc)) = some e.2)) = true := by
  decide

/-- V115 to V130: every condition of Rcc, false and true. -/
theorem test_V115_to_V130_Rcc : ([
    (0xC0, flags (z := 1), 0x1FFE, 0x0201), (0xC0, flags, 0x2000, 0x0103), (0xC8, flags, 0x1FFE, 0x0201),
    (0xC8, flags (z := 1), 0x2000, 0x0103), (0xD0, flags (cy := 1), 0x1FFE, 0x0201), (0xD0, flags, 0x2000, 0x0103),
    (0xD8, flags, 0x1FFE, 0x0201), (0xD8, flags (cy := 1), 0x2000, 0x0103), (0xE0, flags (p := 1), 0x1FFE, 0x0201),
    (0xE0, flags, 0x2000, 0x0103), (0xE8, flags, 0x1FFE, 0x0201), (0xE8, flags (p := 1), 0x2000, 0x0103),
    (0xF0, flags (s := 1), 0x1FFE, 0x0201), (0xF0, flags, 0x2000, 0x0103), (0xF8, flags, 0x1FFE, 0x0201),
    (0xF8, flags (s := 1), 0x2000, 0x0103)] :
    List (Byte × Flags × Word16 × Word16)).all (fun e =>
    decide (after { start [e.1] 0x0200 with
        sp := 0x1FFE, flags := e.2.1, mem := Memory.writeBytes (start [e.1] 0x0200).mem 0x1FFE [0x03, 0x01] }
      (fun t => (t.flags, t.sp, t.pc)) = some e.2)) = true := by
  decide

/-- V131 to V138: every RST. -/
theorem test_V131_to_V138_RST : ([
    (0xC7, 0x0000), (0xCF, 0x0008), (0xD7, 0x0010), (0xDF, 0x0018), (0xE7, 0x0020), (0xEF, 0x0028), (0xF7, 0x0030),
    (0xFF, 0x0038)] : List (Byte × Word16)).all (fun e =>
    decide (after { start [e.1] 0x1234 with sp := 0x2000 }
      (fun t => (t.readByte 0x1FFE, t.readByte 0x1FFF, t.sp, t.pc)) = some (0x35, 0x12, 0x1FFE, e.2))) = true := by
  decide

/-- V165 to V176: every reserved byte under the policy Fault. -/
theorem test_V165_to_V176_reserved : ([
    0x08, 0x10, 0x18, 0x20, 0x28, 0x30, 0x38, 0xCB, 0xD9, 0xDD, 0xED, 0xFD] : List Byte).all (fun b =>
    decide (after (start [b] 0x0200) (fun t => (t.pc, t.status)) = some (0x0200, .faulted b 0x0200))) = true := by
  decide

/-! ## Witnesses: for every statement with hypotheses, a state and operands that meet them, clause by clause -/

/-- The bytes of LDA 0x1234 and one more. -/
theorem test_witness_DecodedBytesAreTheEncoding : decode [0x3A, 0x34, 0x12, 0xFF] = .ok (.lda 0x1234, [0xFF]) := rfl

theorem test_witness_MissingOperandIsRejectedByName :
    ([] : List Byte).length + 1 < opcodeLength 0x3E ∧ ([0x34] : List Byte).length + 1 < opcodeLength 0xC3 := by decide

theorem test_witness_ReservedBytesAreTheTwelve :
    decode [0xFD, 0x00, 0x00] = .ok (.reservedFD, [0x00, 0x00]) ∧ (0xFD, Instr.reservedFD) ∈ Instr.reservedTable :=
  ⟨rfl, by decide⟩

/-- An instruction at the top of memory: its operands wrap to 0x0000 and 0x0001 (R71). -/
theorem test_witness_StepRunsTheDecodedInstruction :
    let s : State := start [0xC3, 0x34, 0x12] 0xFFFF
    s.status = .running ∧
    decode [s.readByte s.pc, s.readByte (s.pc + 1), s.readByte (s.pc + 2)] = .ok (.jmp 0x1234, []) := by decide

theorem test_witness_TerminalStatesAbsorb :
    let h : State := { State.reset with status := .halted }
    let f : State := { State.reset with status := .faulted 0x08 0x0200 }
    h.status = .halted ∧ f.status = .faulted 0x08 0x0200 ∧ step f = .next f ∧ f.status.isTerminal = true :=
  ⟨rfl, rfl, rfl, rfl⟩

/-- One state for each clause: HLT, a reserved byte that raises, DAA that raises, and NOP. -/
theorem test_witness_StatusAfterEveryStep :
    let daa : State := { start [0x27] with cfg := { reservedPolicy := .fault, daaMode := .fault } }
    (start [0x76]).readByte 0x0000 = 0x76 ∧
    ((start [0xED]).readByte 0x0000 ∈ reservedBytes ∧ (start [0xED]).cfg.reservedPolicy = .fault) ∧
    (daa.status = .running ∧ daa.readByte daa.pc = 0x27 ∧ daa.cfg.daaMode = .fault) ∧
    ((start [0x00]).status = .running ∧ (start [0x00]).readByte 0x0000 ∉ reservedBytes ∧
      (start [0x00]).readByte 0x0000 ≠ 0x27 ∧ (start [0x00]).readByte 0x0000 ≠ 0x76) := by decide

theorem test_witness_TrapChangesOnlyTheStatus :
    let daa : State := { start [0x27] with cfg := { reservedPolicy := .noOp1, daaMode := .fault } }
    ((start [0x08]).status = .running ∧ (start [0x08]).readByte (start [0x08]).pc ∈ reservedBytes ∧
      (start [0x08]).cfg.reservedPolicy = .fault) ∧
    (daa.status = .running ∧ daa.readByte daa.pc = 0x27 ∧ daa.cfg.daaMode = .fault) := by decide

/-- The invariant holds of a running state with memory, of a Faulted state and of a Halted state, and each steps. -/
theorem test_witness_EveryStepKeepsTheInvariant :
    (State.Inv (start [0x3C]) ∧ ∃ t, step (start [0x3C]) = .next t ∧ t.regs.a = 0x01) ∧
    (State.Inv { start [0x08] with status := .faulted 0x08 0x0000 } ∧
      ∃ t, step { start [0x08] with status := .faulted 0x08 0x0000 } = .next t) ∧
    State.Inv { start [0x76] with pc := 0x0001, status := .halted } ∧
      ∃ t, step { start [0x76] with pc := 0x0001, status := .halted } = .next t := by
  refine ⟨⟨⟨by decide, fun o p h => ?_, fun h => ?_⟩, _, rfl, by decide⟩,
    ⟨⟨by decide, fun o p h => ?_, fun h => ?_⟩, _, rfl⟩, ⟨by decide, fun o p h => ?_, fun _ => by decide⟩, _, rfl⟩
  · exact nomatch (h : RunStatus.running = .faulted o p)
  · exact nomatch (h : RunStatus.running = .halted)
  · obtain ⟨rfl, rfl⟩ := RunStatus.faulted.inj h
    exact ⟨rfl, by decide, .inl ⟨by decide, rfl⟩⟩
  · exact nomatch (h : RunStatus.faulted 0x08 0x0000 = .halted)
  · exact nomatch (h : RunStatus.halted = .faulted o p)

/-- A launch of the two bytes INR A, HLT at `base`, with 0xEE at 0x0002 and 0xDD at 0x1000. -/
def launchAt (base : Word16) : Launch :=
  { initPc := base, initRegs := regs, initSp := 0xF000, initFlags := flags, initInte := false, loadBase := base,
    image := [0x3C, 0x76], initMem := [(0x0002, 0xEE), (0x1000, 0xDD)], cfg := .default }

/-- An image that ends at 0xFFFF fits, one byte further it does not; 0xFFFE is in the image and 0x1000 is not. -/
theorem test_witness_LaunchPlacesTheImageOrRefusesIt :
    (launchAt 0xFFFF).loadBase.toNat + (launchAt 0xFFFF).image.length > 65536 ∧
    (launchAt 0xFFFE).loadBase.toNat + (launchAt 0xFFFE).image.length ≤ 65536 ∧
    1 < (launchAt 0xFFFE).image.length ∧
    (0x1000 : Word16).toNat < (launchAt 0xFFFE).loadBase.toNat ∧
    (launch (launchAt 0xFFFE)).map (fun s => (s.readByte 0xFFFF, s.readByte 0x1000, s.readByte 0x0003)) =
      some (0x76, 0xDD, 0x00) := by decide

/-- The instructions that assign pc have opcode bytes from 0xC0. -/
theorem opcodeOf_assignsPc {i : Instr} {f : Flags} (h : AssignsPc i f) : 0xC0 ≤ (opcodeOf i).toNat := by
  rcases h with ⟨a, rfl⟩ | ⟨k, a, rfl, -⟩ | rfl | ⟨a, rfl⟩ | ⟨k, a, rfl, -⟩ | rfl | ⟨k, rfl, -⟩ | ⟨n, rfl⟩
  · exact (by decide : 0xC0 ≤ (0xC3 : Byte).toNat)
  · cases k <;> (show 0xC0 ≤ (jumpIfByte _).toNat; decide)
  · decide
  · exact (by decide : 0xC0 ≤ (0xCD : Byte).toNat)
  · cases k <;> (show 0xC0 ≤ (callIfByte _).toNat; decide)
  · decide
  · cases k <;> decide
  · match n with
    | 0 | 1 | 2 | 3 | 4 | 5 | 6 | 7 => decide

/-- INR A, and JZ with Z = 0. -/
theorem test_witness_EveryInstructionCompletesAndAdvances :
    (¬AssignsPc .inrA (flags) ∧ ¬Raises .default .inrA) ∧ ¬AssignsPc (.jumpIf .z 0x0200) (flags) := by
  refine ⟨⟨fun h => absurd (opcodeOf_assignsPc h) (by decide), fun h => ?_⟩, fun h => ?_⟩
  · rcases h with ⟨⟨e, he, h⟩, -⟩ | ⟨h, -⟩
    · revert h he e
      decide
    · exact nomatch h
  · rcases h with ⟨a, h⟩ | ⟨k, a, h, hk⟩ | h | ⟨a, h⟩ | ⟨k, a, h, -⟩ | h | ⟨k, h, -⟩ | ⟨n, h⟩
    · exact nomatch h
    · cases k <;> first | exact absurd hk (by decide) | exact nomatch h
    · exact nomatch h
    · exact nomatch h
    · cases k <;> exact nomatch h
    · exact nomatch h
    · cases k <;> exact nomatch h
    · match n with
      | 0 | 1 | 2 | 3 | 4 | 5 | 6 | 7 => exact nomatch h

/-- SHLD 0xFFFF stores at 0xFFFF and at 0x0000. -/
theorem test_witness_OnlyTheTableOfStoresWritesMemory :
    let s : State := { State.reset with regs := regs (h := 0x12) (l := 0x34) }
    ∃ t, exec (.shld 0xFFFF) s = .next t ∧ t.readByte 0xFFFF ≠ s.readByte 0xFFFF ∧
      t.readByte 0x0000 ≠ s.readByte 0x0000 := ⟨_, rfl, by decide⟩

/-- MOV A,B writes no flag, STC writes CY only, INR A writes every flag but CY. -/
theorem test_witness_UntouchedFlagsKeepTheirValue :
    (∃ t, exec (.mov .a .b) State.reset = .next t ∧ ¬WritesCarryOnly (.mov .a .b) ∧ ¬WritesAllButCarry (.mov .a .b) ∧
      ¬WritesAllFlags (.mov .a .b)) ∧
    (∃ t, exec .stc State.reset = .next t ∧ WritesCarryOnly .stc) ∧
    ∃ t, exec (.inr (.reg .a)) State.reset = .next t ∧ WritesAllButCarry (.inr (.reg .a)) := by
  refine ⟨⟨_, rfl, ?_, ?_, ?_⟩, ⟨_, rfl, by simp [WritesCarryOnly]⟩, _, rfl, .reg .a, .inl rfl⟩
  · rintro (⟨p, h⟩ | h | h | h | h | h | h)
    · cases p <;> exact nomatch h
    all_goals exact nomatch h
  · rintro ⟨o | _, h | h⟩
    · cases o <;> exact nomatch h
    · cases o <;> exact nomatch h
    all_goals exact nomatch h
  · rintro (⟨o | _, h | h | h | h | h | h | h | h⟩ | ⟨v, h | h | h | h | h | h | h | h⟩ | h | h)
    all_goals first | exact absurd h (by decide) | (cases o <;> exact absurd h (by decide)) | exact nomatch h

theorem test_witness_OnlyEiAndDiWriteInte :
    (∃ t, exec .ei State.reset = .next t ∧ t.inte ≠ State.reset.inte) ∧
    ∃ t, exec .di { State.reset with inte := true } = .next t ∧ t.inte ≠ true :=
  ⟨⟨_, rfl, by decide⟩, _, rfl, by decide⟩

/-- CZ taken, and PUSH B, write SP. -/
theorem test_witness_OnlyTheTableOfRegistersWritesSp :
    (∃ t, exec (.callIf .z 0x0200) { State.reset with flags := flags (z := 1) } = .next t ∧ t.sp ≠ 0x0000) ∧
    ∃ t, exec (.push .bc) State.reset = .next t ∧ t.sp ≠ State.reset.sp := ⟨⟨_, rfl, by decide⟩, _, rfl, by decide⟩

theorem test_witness_ParametersAreFixedAndSeldomRead :
    (∃ t, step State.reset = .next t) ∧ (¬IsReserved .nop ∧ Instr.nop ≠ .daa) := by
  refine ⟨⟨_, rfl⟩, fun ⟨e, he, h⟩ => ?_, by decide⟩
  revert h he e
  decide

/-- A run of one step ends at HLT. -/
theorem test_witness_RunFindsTheReachableTerminalState :
    ∃ t, run 1 (start [0x76]) = some t ∧ t.status.isTerminal = true := ⟨_, rfl, rfl⟩

/-- HL points at the byte after MOV M,r. -/
theorem test_witness_StoreIsSeenByTheNextFetch :
    ({ State.reset with regs := regs (l := 0x01) } : State).regs.hl = State.reset.pc + 1 := by decide

theorem test_witness_DaaAdjustsOrRaises :
    State.reset.cfg.daaMode = .reference ∧
    ({ State.reset with cfg := { reservedPolicy := .fault, daaMode := .fault } } : State).cfg.daaMode = .fault :=
  ⟨rfl, rfl⟩

/-- 99 + 99, the largest decimal digits. -/
theorem test_witness_DaaGivesTheDecimalSum :
    let s : State := { State.reset with regs := regs (a := 0x99) (b := 0x99) }
    s.cfg.daaMode = .reference ∧ IsBcd s.regs.a ∧ IsBcd (s.operand8 (.reg .b)) :=
  ⟨rfl, ⟨by decide, by decide⟩, ⟨by decide, by decide⟩⟩

/-- A condition that holds and one that does not: the jumps, the calls and the returns. -/
theorem test_witness_conditions : State.reset.flags.cond .nz = true ∧ State.reset.flags.cond .z = false := by decide

/-- A pair other than the one popped and other than SP. -/
theorem test_witness_PushAndPopMoveOnePair : Pair.hl ≠ StackPair.toPair .bc ∧ Pair.hl ≠ .sp := by decide

/-- POP B after PUSH B. -/
theorem test_witness_StackRoundTrips : (StackPair.bc : StackPair) = .bc := rfl

/-- A state that went on after the call, with another pc and other registers, and has the stack as the call left it. -/
theorem test_witness_CallThenReturn :
    (∃ t, exec (.call 0x0200) State.reset = .next t ∧
      ({ t with pc := 0x0210, regs := regs (a := 0x55) } : State).sp = t.sp ∧
      ({ t with pc := 0x0210, regs := regs (a := 0x55) } : State).readByte t.sp = t.readByte t.sp ∧
      ({ t with pc := 0x0210, regs := regs (a := 0x55) } : State).readByte (t.sp + 1) = t.readByte (t.sp + 1)) ∧
    ∃ t, exec (.rst 7) State.reset = .next t ∧ t.readByte t.sp = 0x01 := ⟨⟨_, rfl, rfl, rfl, rfl⟩, _, rfl, by decide⟩

theorem test_witness_ReservedBytesRaiseOrPass :
    (0x08, Instr.reserved08) ∈ Instr.reservedTable ∧ State.reset.cfg.reservedPolicy = .fault ∧
    ({ State.reset with cfg := { reservedPolicy := .noOp1, daaMode := .reference } } : State).cfg.reservedPolicy =
      .noOp1 := ⟨by decide, rfl, rfl⟩

end Sys2Proof.Tests
end

section
/-! PROOFS. Register pairs as views of two registers (10_state.md rule R31). -/

namespace Sys2Proof

/-- The high byte, written as the number R31 speaks of. -/
theorem highByte_eq_ofNat (w : Word16) : highByte w = BitVec.ofNat 8 (w.toNat / 256) := by
  rw [← highByte_toNat, BitVec.ofNat_toNat, BitVec.setWidth_eq]

/-- The low byte, written as a number; `BitVec.ofNat` keeps it modulo 256. -/
theorem lowByte_eq_ofNat (w : Word16) : lowByte w = BitVec.ofNat 8 w.toNat := by
  apply BitVec.eq_of_toNat_eq
  rw [lowByte_toNat, BitVec.toNat_ofNat]

/-- Settles O26: each view is `pairOf` of its two registers, whose value `pairOf_toNat` gives; a pair write is the
high and the low byte of the value put into those two registers. -/
theorem pairsAreViewsOfRegisters : Obligations.PairsAreViewsOfRegisters := by
  intro s v
  rw [← highByte_eq_ofNat, ← lowByte_eq_ofNat]
  have views : (s.pair .bc).toNat = s.regs.b.toNat * 256 + s.regs.c.toNat ∧
      (s.pair .de).toNat = s.regs.d.toNat * 256 + s.regs.e.toNat ∧
      (s.pair .hl).toNat = s.regs.h.toNat * 256 + s.regs.l.toNat :=
    ⟨pairOf_toNat _ _, pairOf_toNat _ _, pairOf_toNat _ _⟩
  exact ⟨views, rfl, rfl, rfl, rfl⟩

end Sys2Proof
end

section
/-! PROOFS. The condition codes and the flags they test (30_encoding.md rule R106, 41_flag_unit.md rule R182). -/

namespace Sys2Proof

/-- Settles O24: condition by condition, from NZ to M, its row of the table of codes and its row of the table of
tests, each of which is the defining equation of `Cond.code` or `Flags.cond`. -/
theorem conditionCodesTestTheirFlags : Obligations.ConditionCodesTestTheirFlags := fun _ =>
  ⟨⟨rfl, rfl⟩, ⟨rfl, rfl⟩, ⟨rfl, rfl⟩, ⟨rfl, rfl⟩, ⟨rfl, rfl⟩, ⟨rfl, rfl⟩, ⟨rfl, rfl⟩, ⟨rfl, rfl⟩⟩

end Sys2Proof
end

section
/-! PROOFS. The bytes at pc decode to the fetched instruction (40_dispatch.md rules R141, R142). -/

namespace Sys2Proof.Machine

/-- The fetch agrees with the decoder: for each of the three operand shapes (R142), both read the opcode byte's
descriptor and the same operand bytes. -/
theorem decode_bytesAtPc (s : State) :
    ∃ rest, decode [s.readByte s.pc, s.readByte (s.pc + 1), s.readByte (s.pc + 2)] = .ok (s.fetch, rest) := by
  obtain ⟨i, hop, hfetch⟩ | ⟨k, hop, hfetch⟩ | ⟨k, hop, hfetch⟩ := fetch_cases s <;> rw [hfetch]
  · exact ⟨_, decode_bare hop _⟩
  · exact ⟨_, decode_withByte hop _ _⟩
  · exact ⟨_, decode_withWord hop _ _ _⟩

/-- What the bytes at pc decode to is the fetched instruction. -/
theorem fetch_eq_of_decode {s : State} {i : Instr} {rest : List Byte}
    (hdecode : decode [s.readByte s.pc, s.readByte (s.pc + 1), s.readByte (s.pc + 2)] = .ok (i, rest)) :
    s.fetch = i := by
  obtain ⟨rest', hfetched⟩ := decode_bytesAtPc s
  have hsame : (s.fetch, rest') = (i, rest) := Except.ok.inj (hfetched.symm.trans hdecode)
  exact congrArg Prod.fst hsame

/-- Settles O7: from Running a step executes the fetched instruction, which is the decoded one. -/
theorem stepRunsTheDecodedInstruction : Obligations.StepRunsTheDecodedInstruction := by
  intro s i rest hrunning hdecode
  rw [step_of_running hrunning, fetch_eq_of_decode hdecode]

end Sys2Proof.Machine
end

section
/-! PROOFS. The result flags of the flag unit as arithmetic on any number (41_flag_unit.md rules R171, R172, R173). -/

namespace Sys2Proof.Machine

theorem zero_iff (v : Nat) : zero v = true ↔ v % 256 = 0 := beq_iff_eq

theorem sign_iff (v : Nat) : sign v = true ↔ 128 ≤ v % 256 := by
  rw [sign, Nat.testBit_eq_decide_div_mod_eq, decide_eq_true_iff]
  omega

/-- Counting the set bits below `width` does not see the bits from `n` on. -/
theorem popcount_mod_two_pow (v : Nat) {n width : Nat} (h : width ≤ n) :
    popcount (v % 2 ^ n) width = popcount v width := by
  induction width with
  | zero => rfl
  | succ width ih =>
    have hbit : (v % 2 ^ n).testBit width = v.testBit width := by
      simp [Nat.testBit_mod_two_pow, Nat.lt_of_succ_le h]
    rw [popcount, popcount, ih (Nat.le_of_succ_le h), hbit]

theorem popcount_eight (v : Nat) :
    popcount v 8 =
      v % 2 + v / 2 % 2 + v / 4 % 2 + v / 8 % 2 + v / 16 % 2 + v / 32 % 2 + v / 64 % 2 + v / 128 % 2 := by
  simp [popcount, Nat.toNat_testBit, -Nat.testBit_zero]

/-- Parity counts the low eight bits, so the reduction mod 256 can go. -/
theorem parity_eq_popcount (v : Nat) : parity v = (popcount v 8 % 2 == 0) :=
  congrArg (· % 2 == 0) (popcount_mod_two_pow v (n := 8) le_rfl)

theorem parity_iff (v : Nat) :
    parity v = true ↔
      (v % 2 + v / 2 % 2 + v / 4 % 2 + v / 8 % 2 + v / 16 % 2 + v / 32 % 2 + v / 64 % 2 + v / 128 % 2) % 2 = 0 := by
  rw [parity_eq_popcount, popcount_eight, beq_iff_eq]

/-- Settles O23: flag by flag, its value at any number as arithmetic. -/
theorem zeroSignParityOfAnyNumber : Obligations.ZeroSignParityOfAnyNumber := fun v =>
  ⟨zero_iff v, sign_iff v, parity_iff v⟩

/-! ### The flags of a number and of the byte it leaves -/

@[simp] theorem zero_mod_256 (v : Nat) : zero (v % 256) = zero v := by simp [zero]

@[simp] theorem sign_mod_256 (v : Nat) : sign (v % 256) = sign v := by simp [sign]

@[simp] theorem parity_mod_256 (v : Nat) : parity (v % 256) = parity v := by simp [parity]

end Sys2Proof.Machine
end

section
/-! PROOFS. The difference of two bytes, its flags, and CMP and CPI (41_flag_unit.md rule R178, 44_logic.md rules
R286, R287, R291). -/

namespace Sys2Proof.Machine

open Sys2Proof.Claims

/-- The difference mod 2^8 in natural numbers: with 512 added, `a - v - c` does not go below zero. -/
theorem diff8_toNat (a v : Byte) (c : Bool) :
    (diff8 a v c).toNat = (512 + a.toNat - v.toNat - c.toNat) % 256 := by
  have hv := v.isLt
  have hc := c.toNat_le
  rw [diff8, BitVec.toNat_ofInt]
  omega

/-- The flags of class subtract are those of the difference as a number (R176, R178); none of the old ones is kept. -/
theorem Flags.afterSub_diff8 (f : Flags) (a v : Byte) (c : Bool) :
    f.afterSub a v c (diff8 a v c) = subFlags a v c := by
  simp [Flags.afterSub, Flags.setZSP, diff8_toNat, subFlags, borrow8]

theorem complete_compareA (len : Nat) (s : State) (v : Byte) :
    complete len (s.compareA v) = .next (afterCompare s v len) := by
  simp [complete, State.compareA, State.advance, afterCompare, Flags.afterSub_diff8]

/-- Two bytes differ by less than 256, so the difference is 0 mod 256 only when they are equal. -/
theorem subFlags_z_iff (a v : Byte) : (subFlags a v false).z = true ↔ a = v := by
  have ha := a.isLt
  have hv := v.isLt
  rw [subFlags, zero_iff, ← BitVec.toNat_inj, Bool.toNat_false]
  omega

theorem subFlags_cy_iff (a v : Byte) : (subFlags a v false).cy = true ↔ a.toNat < v.toNat := decide_eq_true_iff

/-- R103: `10` with the ALU code 111 of R107, and the operand's code. -/
theorem encode_cmp (o : Operand8) : encode (.cmp o) = [0b10111#5 ++ o.code] := by
  cases o with
  | reg r => cases r <;> rfl
  | m => rfl

/-- Settles O45: both forms complete `compareA`, whose flags are those of the difference. -/
theorem compareWritesFlagsOnly : Obligations.CompareWritesFlagsOnly :=
  ⟨fun o s => ⟨encode_cmp o, (exec_cmp o s).trans (complete_compareA 1 s (s.operand8 o))⟩,
    fun d8 s => ⟨rfl, complete_compareA 2 s d8⟩,
    fun a v => ⟨subFlags_z_iff a v, subFlags_cy_iff a v⟩⟩

end Sys2Proof.Machine
end

section
/-! PROOFS. AND, XOR and OR (41_flag_unit.md rule R179, 44_logic.md rules R280 to R285 and R288 to R290). -/

namespace Sys2Proof.Machine

open Sys2Proof.Claims

/-- R179: the flags of a logical result are built from it alone; every flag of `s` is overwritten. -/
theorem complete_logicToA (len : Nat) (s : State) (t : Byte) :
    complete len (s.logicToA t) = .next (afterLogic s t len) := rfl

/-- R103: `10` with the ALU codes 100, 101 and 110 of R107, and the operand's code. -/
theorem encode_logicOperand (o : Operand8) :
    encode (.ana o) = [0b10100#5 ++ o.code] ∧ encode (.xra o) = [0b10101#5 ++ o.code] ∧
    encode (.ora o) = [0b10110#5 ++ o.code] := by
  cases o with
  | reg r => cases r <;> exact ⟨rfl, rfl, rfl⟩
  | m => exact ⟨rfl, rfl, rfl⟩

/-- Settles O44: all six forms complete `logicToA` with their own result. -/
theorem logicResultAndFlags : Obligations.LogicResultAndFlags := by
  refine ⟨fun o s => ?_, fun d8 s => ?_⟩
  · obtain ⟨hana, hxra, hora⟩ := encode_logicOperand o
    exact ⟨hana, hxra, hora, (exec_ana o s).trans (complete_logicToA 1 s _),
      (exec_xra o s).trans (complete_logicToA 1 s _), (exec_ora o s).trans (complete_logicToA 1 s _)⟩
  · exact ⟨rfl, rfl, rfl, complete_logicToA 2 s _, complete_logicToA 2 s _, complete_logicToA 2 s _⟩

end Sys2Proof.Machine
end

section
/-! PROOFS. The data movement instructions that store one byte, and XTHL (42_data_movement.md rules R202, R204, R207,
R209 and R213). -/

namespace Sys2Proof.Machine

open Sys2Proof.Claims

/-- What a rule answers that ends with one byte store (R14, R143). -/
theorem complete_writeByte (len : Nat) (s : State) (a : Word16) (v : Byte) :
    ∃ m, complete len (s.writeByte a v) = .next { s with mem := m, pc := s.pc + BitVec.ofNat 16 len } ∧
      StoresByte s.mem m a v :=
  ⟨s.mem.write a v, rfl, Memory.read_write_same s.mem a v, fun _ => Memory.read_write_other s.mem v⟩

theorem encode_movMR (src : Reg) : encode (.movMR src) = [0b01110#5 ++ src.code] := by cases src <;> rfl

theorem encode_stax (p : PointerPair) : encode (.stax p) = [0b000#3 ++ p.code ++ 0b0010#4] := by cases p <;> rfl

/-- Settles O29: each of the four completes one byte store, at its own address and with its own length. -/
theorem byteStoresWriteOneByte : Obligations.ByteStoresWriteOneByte := by
  refine ⟨fun src s => ⟨encode_movMR src, ?_⟩, fun d8 s => ⟨rfl, ?_⟩, fun p s => ⟨encode_stax p, ?_⟩,
    fun a16 s => ⟨rfl, ?_⟩⟩
  · rw [exec_movMR]
    exact complete_writeByte 1 s s.regs.hl (s.reg src)
  · rw [exec_mvi]
    exact complete_writeByte 2 s s.regs.hl d8
  · rw [exec_stax]
    exact complete_writeByte 1 s (s.pair p.toPair) s.regs.a
  · exact complete_writeByte 3 s a16 s.regs.a

/-- Reading after a 2-byte store of `{h, l}`: `l` at `a`, `h` above it (mod 2^16), every other byte as before
(R14, R73). -/
theorem State.readByte_writeWord_pairOf (s : State) (a : Word16) (h l : Byte) :
    (s.writeWord a (pairOf h l)).readByte a = l ∧ (s.writeWord a (pairOf h l)).readByte (a + 1) = h ∧
    ∀ x, x ≠ a → x ≠ a + 1 → (s.writeWord a (pairOf h l)).readByte x = s.readByte x := by
  refine ⟨?_, ?_, fun x hlow hhigh => ?_⟩
  · simp [State.readByte_writeWord]
  · simp [State.readByte_writeWord]
  · rw [State.readByte_writeWord, if_neg hhigh, if_neg hlow]

/-- XTHL in full (R213): the two bytes at SP go to H and L as they were before the store. -/
theorem exec_xthl (s : State) :
    exec .xthl s = .next { s with
      regs := { s.regs with l := s.readByte s.sp, h := s.readByte (s.sp + 1) }
      mem := (s.writeWord s.sp s.regs.hl).mem
      pc := s.pc + 1 } := by
  have hexec : exec .xthl s = complete 1 ((s.writeWord s.sp s.regs.hl).setPair .hl s.topOfStack) := rfl
  rw [hexec, complete_eq_next]
  simp [State.topOfStack, State.readWord, State.setPair, State.advance]

/-- Settles O33: XTHL stores HL at SP, and HL is `{H, L}`. -/
theorem xthlExchangesHlAndTheStackTop : Obligations.XthlExchangesHlAndTheStackTop :=
  ⟨rfl, fun s => ⟨_, exec_xthl s, State.readByte_writeWord_pairOf s s.sp s.regs.h s.regs.l⟩⟩

end Sys2Proof.Machine
end

section
/-! PROOFS. The data movement instructions that write registers alone (42_data_movement.md rules R200, R201, R203,
R206, R208 and R212), and SPHL (47_stack.md rule R364). -/

namespace Sys2Proof.Machine

open Sys2Proof.Claims

/-- What a rule answers that ends with one register write (R13, R143). -/
theorem complete_setReg (len : Nat) (s : State) (r : Reg) (v : Byte) :
    ∃ rf, complete len (s.setReg r v) = .next { s with regs := rf, pc := s.pc + BitVec.ofNat 16 len } ∧
      WritesReg s.regs rf r v :=
  ⟨s.regs.set r v, rfl, RegFile.get_set_same s.regs r v, fun _ => RegFile.get_set_other s.regs v⟩

theorem encode_mov (dst src : Reg) : encode (.mov dst src) = [0b01#2 ++ dst.code ++ src.code] := by
  cases dst <;> cases src <;> rfl

theorem encode_movRM (dst : Reg) : encode (.movRM dst) = [0b01#2 ++ dst.code ++ 0b110#3] := by cases dst <;> rfl

theorem encode_mvi_reg (dst : Reg) (d8 : Byte) :
    encode (.mvi (.reg dst) d8) = [0b00#2 ++ dst.code ++ 0b110#3, d8] := by cases dst <;> rfl

theorem encode_ldax (p : PointerPair) : encode (.ldax p) = [0b000#3 ++ p.code ++ 0b1010#4] := by cases p <;> rfl

/-- Settles O27: both forms complete a write of the destination register. -/
theorem registerMovesWriteOneRegister : Obligations.RegisterMovesWriteOneRegister := by
  refine ⟨fun dst src s => ⟨encode_mov dst src, ?_⟩, fun dst d8 s => ⟨encode_mvi_reg dst d8, ?_⟩⟩
  · rw [exec_mov]
    exact complete_setReg 1 s dst (s.reg src)
  · rw [exec_mvi]
    exact complete_setReg 2 s dst d8

/-- Settles O28: each form completes a write of one register, for LDAX and LDA the accumulator. -/
theorem byteLoadsWriteOneRegister : Obligations.ByteLoadsWriteOneRegister := by
  refine ⟨fun dst s => ⟨encode_movRM dst, ?_⟩, fun p s => ⟨encode_ldax p, exec_ldax p s⟩, fun a16 s => ⟨rfl, rfl⟩⟩
  rw [exec_movRM]
  exact complete_setReg 1 s dst (s.readByte s.regs.hl)

/-- XCHG in full (R212): the two pairs are read before either is written. -/
theorem exec_xchg (s : State) :
    exec .xchg s = .next { s with
      regs := { s.regs with h := s.regs.d, l := s.regs.e, d := s.regs.h, e := s.regs.l }, pc := s.pc + 1 } := by
  have hexec : exec .xchg s = complete 1 ((s.setPair .hl s.regs.de).setPair .de s.regs.hl) := rfl
  rw [hexec, complete_eq_next]
  simp [State.setPair, RegFile.de, RegFile.hl, State.advance]

/-- Settles O32: XCHG is `exec_xchg`; SPHL puts the pair HL into SP by its definition. -/
theorem xchgAndSphlMoveHl : Obligations.XchgAndSphlMoveHl :=
  ⟨rfl, rfl, fun s => ⟨exec_xchg s, rfl⟩⟩

end Sys2Proof.Machine
end

section
/-! PROOFS. Addition into a byte: ADD, ADI and INR (43_arithmetic.md rules R240, R241, R248, R252 and R253). -/

namespace Sys2Proof.Machine

open Sys2Proof.Claims

theorem sum8_toNat (a v : Byte) (c : Bool) : (sum8 a v c).toNat = (a.toNat + v.toNat + c.toNat) % 256 :=
  BitVec.toNat_ofNat _ _

/-- The flags of class add are those of the sum as a number (R175, R181); `c` is the carry-in. -/
theorem complete_addToA (len : Nat) (s : State) (v : Byte) (c : Bool) :
    complete len (s.addToA v c) = .next (afterAdd s v c len) := by
  rw [complete_eq_next, State.addToA, Flags.afterAdd, Flags.setZSP, sum8_toNat, zero_mod_256, sign_mod_256,
    parity_mod_256]
  rfl

/-- R103: `10` with the ALU code 000 of R107, and the operand's code. -/
theorem encode_add (o : Operand8) : encode (.add o) = [0b10000#5 ++ o.code] := by
  cases o with
  | reg r => cases r <;> rfl
  | m => rfl

/-- Settles O34: both forms complete `addToA` without a carry-in. -/
theorem addResultAndFlags : Obligations.AddResultAndFlags :=
  ⟨fun o s => ⟨encode_add o, (exec_add o s).trans (complete_addToA 1 s (s.operand8 o) false)⟩,
    fun d8 s => ⟨rfl, complete_addToA 2 s d8 false⟩⟩

/-- The word of a sum of numbers, the first read from a word: how R252, R256 and R257 write a result mod 2^w. -/
theorem ofNat_toNat_add {w : Nat} (x : BitVec w) (n : Nat) :
    BitVec.ofNat w (x.toNat + n) = x + BitVec.ofNat w n := by
  rw [BitVec.ofNat_add, BitVec.ofNat_toNat, BitVec.setWidth_eq]

/-- Adding 1 carries out of the low nibble exactly when the nibble is 0xF (R175, R252). -/
theorem acAdd_one (v : Byte) : acAdd v 1 false = decide (v.toNat % 16 = 0xF) := by
  have hone : (1 : Byte).toNat = 1 := rfl
  rw [acAdd, hone, Bool.toNat_false, decide_eq_decide]
  omega

/-- INR's flags are those of the old value plus one as a number; CY stays (R180). -/
theorem Flags.afterIncrement_add_one (f : Flags) (v : Byte) : f.afterIncrement v (v + 1) = incFlags f v := by
  have hsum : (v + 1).toNat = (v.toNat + 1) % 256 := BitVec.toNat_add v 1
  rw [Flags.afterIncrement, Flags.setZSP, hsum, zero_mod_256, sign_mod_256, parity_mod_256, acAdd_one]
  rfl

/-- INR of a register or of M: the operand's new value and the flags of its old one (R252, R253). -/
theorem exec_inr_eq (o : Operand8) (s : State) :
    exec (.inr o) s = complete 1
      { s.setOperand8 o (BitVec.ofNat 8 ((s.operand8 o).toNat + 1)) with
        flags := incFlags s.flags (s.operand8 o) } := by
  rw [exec_inr, incrementOperand, Flags.afterIncrement_add_one, ofNat_toNat_add]
  rfl

theorem encode_inr_reg (r : Reg) : encode (.inr (.reg r)) = [0b00#2 ++ r.code ++ 0b100#3] := by cases r <;> rfl

/-- Settles O38: INR stores the incremented value in its register, or in the byte at HL. -/
theorem incrementResultAndFlags : Obligations.IncrementResultAndFlags :=
  ⟨fun r s => ⟨encode_inr_reg r, _, exec_inr_eq (.reg r) s,
      RegFile.get_set_same s.regs r _, fun _ => RegFile.get_set_other s.regs _⟩,
    rfl, fun s => ⟨_, exec_inr_eq .m s,
      Memory.read_write_same s.mem s.regs.hl _, fun _ => Memory.read_write_other s.mem _⟩⟩

end Sys2Proof.Machine
end

section
/-! PROOFS. The arithmetic on register pairs: INX, DCX and DAD (43_arithmetic.md rules R256, R257 and R258). -/

namespace Sys2Proof.Machine

open Sys2Proof.Claims

/-- The pairs read the registers and SP alone (R31). -/
theorem State.pair_congr {s t : State} (hregs : t.regs = s.regs) (hsp : t.sp = s.sp) (p : Pair) :
    t.pair p = s.pair p := by
  cases p with
  | bc => exact congrArg RegFile.bc hregs
  | de => exact congrArg RegFile.de hregs
  | hl => exact congrArg RegFile.hl hregs
  | sp => exact hsp

theorem State.setPair_a (s : State) (p : Pair) (v : Word16) : (s.setPair p v).regs.a = s.regs.a := by
  cases p <;> rfl

/-- A state with the registers and the SP of a pair write has written that pair, whatever its other fields hold. -/
theorem writesPair_of_eq_setPair {s t : State} {p : Pair} {v : Word16} (hregs : t.regs = (s.setPair p v).regs)
    (hsp : t.sp = (s.setPair p v).sp) : WritesPair s t p v :=
  ⟨(State.pair_congr hregs hsp p).trans (State.pair_setPair_same s p v),
    fun q hq => (State.pair_congr hregs hsp q).trans (State.pair_setPair_other s v hq),
    (congrArg RegFile.a hregs).trans (State.setPair_a s p v)⟩

/-- What a rule answers that ends with one pair write (R13, R143). -/
theorem complete_setPair (len : Nat) (s : State) (p : Pair) (v : Word16) :
    ∃ t, complete len (s.setPair p v) = .next t ∧ WritesPair s t p v ∧
      t = { s with regs := t.regs, sp := t.sp, pc := s.pc + BitVec.ofNat 16 len } :=
  ⟨(s.setPair p v).advance len, rfl, writesPair_of_eq_setPair rfl rfl,
    congrArg (State.advance · len) (State.setPair_frame s p v)⟩

theorem encode_inx (p : Pair) : encode (.inx p) = [0b00#2 ++ p.code ++ 0b0011#4] := by cases p <;> rfl

theorem encode_dcx (p : Pair) : encode (.dcx p) = [0b00#2 ++ p.code ++ 0b1011#4] := by cases p <;> rfl

theorem encode_dad (p : Pair) : encode (.dad p) = [0b00#2 ++ p.code ++ 0b1001#4] := by cases p <;> rfl

/-- Settles O40: both complete one pair write, DCX with 65535, which is -1 mod 2^16. -/
theorem inxAndDcxWrapWithoutFlags : Obligations.InxAndDcxWrapWithoutFlags := by
  refine ⟨fun p s => ⟨encode_inx p, ?_⟩, fun p s => ⟨encode_dcx p, ?_⟩⟩
  · rw [exec_inx, ofNat_toNat_add]
    exact complete_setPair 1 s p (s.pair p + 1)
  · have hminus : s.pair p + BitVec.ofNat 16 65535 = s.pair p - 1 := (sub_eq_add_neg (s.pair p) 1).symm
    rw [exec_dcx, ofNat_toNat_add, hminus]
    exact complete_setPair 1 s p (s.pair p - 1)

/-- Settles O41: DAD completes a write of HL, which leaves SP, and of CY, which no pair reads. -/
theorem dadAddsIntoHl : Obligations.DadAddsIntoHl := by
  intro p s
  rw [exec_dad, ofNat_toNat_add, BitVec.ofNat_toNat, BitVec.setWidth_eq]
  exact ⟨encode_dad p, _, rfl, writesPair_of_eq_setPair rfl rfl, rfl⟩

end Sys2Proof.Machine
end

section
/-! PROOFS. The jumps: Jcc and PCHL (45_branch.md rules R311 and R312). -/

namespace Sys2Proof.Machine

theorem jumpWhen_of_cond {k : Cond} {s : State} (h : s.flags.cond k = true) (a16 : Word16) :
    jumpWhen k a16 s = jumpTo a16 s := if_pos h

theorem jumpWhen_of_not_cond {k : Cond} {s : State} (h : s.flags.cond k = false) (a16 : Word16) :
    jumpWhen k a16 s = complete 3 s := if_neg (ne_true_of_eq_false h)

/-- R103: `11`, the condition's code of R106 and `010`, then the target, low byte first. -/
theorem encode_jumpIf (k : Cond) (a16 : Word16) :
    encode (.jumpIf k a16) = [0b11#2 ++ k.code ++ 0b010#3, lowByte a16, highByte a16] := by cases k <;> rfl

/-- Settles O46: Jcc jumps or completes by its condition; PCHL jumps to HL, which is `pairOf` of H and L. -/
theorem conditionalJumpsAndPchlChangeOnlyPc : Obligations.ConditionalJumpsAndPchlChangeOnlyPc := by
  refine ⟨fun k a16 s => ⟨encode_jumpIf k a16, fun taken => ?_, fun notTaken => ?_⟩, rfl,
    fun s => ⟨s.regs.hl, rfl, pairOf_toNat s.regs.h s.regs.l⟩⟩
  · rw [exec_jumpIf, jumpWhen_of_cond taken, jumpTo_eq_next]
  · rw [exec_jumpIf, jumpWhen_of_not_cond notTaken, complete_eq_next]
    rfl

end Sys2Proof.Machine
end

section
/-! PROOFS. Subroutine linkage: Ccc, RET, Rcc and RST (46_subroutine.md rules R331 to R334, 30_encoding.md rule R108). -/

namespace Sys2Proof.Machine

open Sys2Proof.Claims

/-! ### The 2-byte memory operations and the stack -/

/-- A 2-byte store puts its two bytes low byte first and touches no third address, the wrap included (R14, R73). -/
theorem storesWord_writeWord (s : State) (a v : Word16) : StoresWord s.mem (s.writeWord a v).mem a v := by
  have hread (x : Word16) : (s.writeWord a v).mem.read x =
      if x = a + 1 then highByte v else if x = a then lowByte v else s.mem.read x :=
    State.readByte_writeWord s a x v
  refine ⟨?_, ?_, fun x hlow hhigh => ?_⟩
  · have hne : a ≠ a + 1 := by simp
    rw [hread, if_neg hne, if_pos rfl, lowByte_toNat]
  · rw [hread, if_pos rfl, highByte_toNat]
  · rw [hread, if_neg hhigh, if_neg hlow]

/-- What a 2-byte read gives is the 2-byte value at that address (R14, R73). -/
theorem wordAt_readWord (s : State) (a : Word16) : WordAt s.mem a (s.readWord a) :=
  pairOf_toNat (s.readByte (a + 1)) (s.readByte a)

/-- What a rule answers that pushes the address after its `len` bytes and jumps (R17, R330). -/
theorem callTo_stores_return_address (len : Nat) (target : Word16) (s : State) :
    ∃ m, callTo len target s = .next { s with sp := s.sp - 2, mem := m, pc := target } ∧
      StoresWord s.mem m (s.sp - 2) (s.pc + BitVec.ofNat 16 len) :=
  ⟨(s.push16 (s.pc + BitVec.ofNat 16 len)).mem, rfl, storesWord_writeWord s (s.sp - 2) _⟩

/-- What a rule answers that pops pc (R17, R332). -/
theorem returnToTop_pops_pc (s : State) :
    ∃ w, returnToTop s = .next { s with sp := s.sp + 2, pc := w } ∧ WordAt s.mem s.sp w :=
  ⟨s.topOfStack, rfl, wordAt_readWord s s.sp⟩

/-! ### The two outcomes of the conditional forms -/

theorem callWhen_of_cond {k : Cond} {s : State} (h : s.flags.cond k = true) (a16 : Word16) :
    callWhen k a16 s = callTo 3 a16 s := if_pos h

theorem callWhen_of_not_cond {k : Cond} {s : State} (h : s.flags.cond k = false) (a16 : Word16) :
    callWhen k a16 s = complete 3 s := if_neg (ne_true_of_eq_false h)

theorem returnWhen_of_cond {k : Cond} {s : State} (h : s.flags.cond k = true) :
    returnWhen k s = returnToTop s := if_pos h

theorem returnWhen_of_not_cond {k : Cond} {s : State} (h : s.flags.cond k = false) :
    returnWhen k s = complete 1 s := if_neg (ne_true_of_eq_false h)

/-! ### The words -/

/-- R103: `11`, the condition's code of R106 and `100`, then the target, low byte first. -/
theorem encode_callIf (k : Cond) (a16 : Word16) :
    encode (.callIf k a16) = [0b11#2 ++ k.code ++ 0b100#3, lowByte a16, highByte a16] := by cases k <;> rfl

/-- R103: `11`, the condition's code of R106 and `000`. -/
theorem encode_returnIf (k : Cond) : encode (.returnIf k) = [0b11#2 ++ k.code ++ 0b000#3] := by cases k <;> rfl

/-- R103: `11`, the number in three bits and `111`. -/
theorem encode_rst (n : Fin 8) : encode (.rst n) = [0b11#2 ++ BitVec.ofNat 3 n.val ++ 0b111#3] := by
  match n with
  | 0 | 1 | 2 | 3 | 4 | 5 | 6 | 7 => rfl

/-! ### The obligations -/

/-- Settles O48: a taken Ccc calls its target from an instruction of three bytes; one not taken completes. -/
theorem conditionalCallsPushTheReturnAddress : Obligations.ConditionalCallsPushTheReturnAddress := by
  refine fun k a16 s => ⟨encode_callIf k a16, fun taken => ?_, fun notTaken => ?_⟩
  · rw [exec_callIf, callWhen_of_cond taken]
    exact callTo_stores_return_address 3 a16 s
  · rw [exec_callIf, callWhen_of_not_cond notTaken, complete_eq_next]
    rfl

/-- Settles O50: RST n calls its vector, `n * 8`, from an instruction of one byte. -/
theorem restartCallsItsVector : Obligations.RestartCallsItsVector := by
  refine fun n s => ⟨encode_rst n, ?_⟩
  rw [exec_rst, restart, restartVector, Nat.mul_comm]
  exact callTo_stores_return_address 1 (BitVec.ofNat 16 (8 * n.val)) s

/-- Settles O49: RET and a taken Rcc pop pc; an Rcc not taken completes. -/
theorem returnsPopPc : Obligations.ReturnsPopPc := by
  refine ⟨⟨rfl, returnToTop_pops_pc⟩, fun k s => ⟨encode_returnIf k, fun taken => ?_, fun notTaken => ?_⟩⟩
  · rw [exec_returnIf, returnWhen_of_cond taken]
    exact returnToTop_pops_pc s
  · rw [exec_returnIf, returnWhen_of_not_cond notTaken, complete_eq_next]
    rfl

end Sys2Proof.Machine
end

section
/-! PROOFS. PUSH and POP of BC, DE and HL (47_stack.md rules R360 and R361). -/

namespace Sys2Proof.Machine

open Sys2Proof.Claims

/-- R103: `11`, the pair's code of R105 and `0101`. -/
theorem encode_push (p : StackPair) : encode (.push p) = [0b11#2 ++ p.code ++ 0b0101#4] := by cases p <;> rfl

/-- R103: `11`, the pair's code of R105 and `0001`. -/
theorem encode_pop (p : StackPair) : encode (.pop p) = [0b11#2 ++ p.code ++ 0b0001#4] := by cases p <;> rfl

/-- What a rule answers that ends with one push (R17, R143). -/
theorem complete_push16 (len : Nat) (s : State) (v : Word16) :
    ∃ m, complete len (s.push16 v) =
        .next { s with sp := s.sp - 2, mem := m, pc := s.pc + BitVec.ofNat 16 len } ∧
      StoresWord s.mem m (s.sp - 2) v :=
  ⟨(s.push16 v).mem, rfl, storesWord_writeWord s (s.sp - 2) v⟩

/-- Dropping the top of the stack moves SP alone, so the other three pairs read as before (R17, R31). -/
theorem State.pair_dropTop (s : State) {q : Pair} (h : q ≠ .sp) : s.dropTop.pair q = s.pair q := by
  cases q with
  | bc | de | hl => rfl
  | sp => exact absurd rfl h

/-- What POP answers: the top of the stack goes to the pair. The write of that pair leaves the other pairs and SP as the
pop left them, which gives both the frame of the pairs and the new SP (R361). -/
theorem popPair_loads_pair (p : StackPair) (s : State) :
    ∃ t, popPair p s = .next t ∧ WordAt s.mem s.sp (t.pair p.toPair) ∧
      (∀ q, q ≠ p.toPair → q ≠ .sp → t.pair q = s.pair q) ∧ t.regs.a = s.regs.a ∧
      t = { s with regs := t.regs, sp := s.sp + 2, pc := s.pc + 1 } := by
  obtain ⟨t, hexec, ⟨hpair, hothers, ha⟩, hframe⟩ := complete_setPair 1 s.dropTop p.toPair s.topOfStack
  have hsp : t.sp = s.sp + 2 := hothers .sp (StackPair.toPair_ne_sp p).symm
  refine ⟨t, hexec, ?_, fun q hq hnotSp => (hothers q hq).trans (s.pair_dropTop hnotSp), ha, ?_⟩
  · rw [hpair]
    exact wordAt_readWord s s.sp
  · rw [hsp] at hframe
    exact hframe

/-- Settles O51: PUSH completes a push of the pair; POP completes a write of the pair with what stood at SP. -/
theorem pushAndPopMoveOnePair : Obligations.PushAndPopMoveOnePair := by
  refine ⟨fun p s => ⟨encode_push p, ?_⟩, fun p s => ⟨encode_pop p, ?_⟩⟩
  · rw [exec_push]
    exact complete_push16 1 s (s.pair p.toPair)
  · rw [exec_pop]
    exact popPair_loads_pair p s

end Sys2Proof.Machine
end

section
/-! PROOFS. CMA, CMC, STC, NOP and the rotates (48_control.md rules R386 to R393). -/

namespace Sys2Proof.Machine

open Sys2Proof.Claims

/-! ### CMA, CMC, STC and NOP -/

/-- Complementing a byte takes it from 255, the byte of all ones (R386). -/
theorem not_eq_ofNat_sub (a : Byte) : ~~~a = BitVec.ofNat 8 (255 - a.toNat) := by
  have ha := a.isLt
  rw [← BitVec.toNat_inj, BitVec.toNat_not, BitVec.toNat_ofNat]
  omega

/-- R386: CMA completes with `255 - A` in A. -/
theorem exec_cma (s : State) :
    exec .cma s = .next { s with
      regs := { s.regs with a := BitVec.ofNat 8 (255 - s.regs.a.toNat) }, pc := s.pc + 1 } := by
  rw [← not_eq_ofNat_sub]
  rfl

/-- Settles O57: CMC, STC and NOP answer by their definitions, CMA by `exec_cma`. -/
theorem complementSetCarryAndNop : Obligations.ComplementSetCarryAndNop :=
  ⟨rfl, rfl, rfl, rfl, fun s => ⟨exec_cma s, rfl, rfl, rfl⟩⟩

/-! ### The rotates

A rotate shifts A by one and puts a bit in the place the shift frees: the bit shifted out, or the old CY. -/

theorem bit0_eq_ofNat (b : Bool) : bit0 b = BitVec.ofNat 8 b.toNat := by cases b <;> rfl

/-- A left shift leaves bit 0 clear, so putting a bit there adds it (R389, R391). -/
theorem shiftLeft_or_bit0 (a : Byte) (b : Bool) :
    a <<< 1 ||| bit0 b = BitVec.ofNat 8 (2 * a.toNat + b.toNat) := by
  have hor : 2 * a.toNat + b.toNat = 2 * a.toNat ||| b.toNat :=
    Nat.two_pow_add_eq_or_of_lt (i := 1) b.toNat_lt a.toNat
  have hshift : a <<< 1 = BitVec.ofNat 8 (2 * a.toNat) := by
    rw [← BitVec.toNat_inj, BitVec.toNat_shiftLeft, BitVec.toNat_ofNat, Nat.shiftLeft_eq, Nat.mul_comm]
  rw [hor, BitVec.ofNat_or, hshift, bit0_eq_ofNat]

/-- A right shift leaves bit 7 clear, so putting a bit there adds 128 times it (R390, R392). -/
theorem shiftRight_or_bit0 (a : Byte) (b : Bool) :
    a >>> 1 ||| bit0 b <<< 7 = BitVec.ofNat 8 (a.toNat / 2 + 128 * b.toNat) := by
  have hhalf : a.toNat / 2 < 2 ^ 7 := Nat.div_lt_of_lt_mul a.isLt
  have hor : a.toNat / 2 + 128 * b.toNat = a.toNat / 2 ||| 128 * b.toNat := by
    rw [Nat.add_comm, Nat.or_comm]
    exact Nat.two_pow_add_eq_or_of_lt hhalf b.toNat
  have hshift : a >>> 1 = BitVec.ofNat 8 (a.toNat / 2) := by
    rw [← BitVec.toNat_inj, BitVec.toNat_ushiftRight, BitVec.toNat_ofNat, Nat.shiftRight_one]
    omega
  have hbit : bit0 b <<< 7 = BitVec.ofNat 8 (128 * b.toNat) := by cases b <;> rfl
  rw [hor, BitVec.ofNat_or, hshift, hbit]

/-- Bit 7 of a byte as a number: 1 when the byte is at least 128. -/
theorem getLsbD_seven_toNat (a : Byte) : (a.getLsbD 7).toNat = a.toNat / 128 := by
  rw [← BitVec.testBit_toNat, Nat.toNat_testBit]
  omega

/-- Bit 0 of a byte as a number. -/
theorem getLsbD_zero_toNat (a : Byte) : (a.getLsbD 0).toNat = a.toNat % 2 := by
  rw [← BitVec.testBit_toNat, Nat.toNat_testBit, pow_zero, Nat.div_one]

theorem getLsbD_seven_eq_decide (a : Byte) : a.getLsbD 7 = decide (a.toNat ≥ 128) := by
  rw [← BitVec.testBit_toNat, Nat.testBit_eq_decide_div_mod_eq, decide_eq_decide]
  omega

theorem getLsbD_zero_eq_decide (a : Byte) : a.getLsbD 0 = decide (a.toNat % 2 = 1) := by
  rw [← BitVec.testBit_toNat, Nat.testBit_zero]

/-- What RLC and RAL share: A shifted left, `b` put in at bit 0, and bit 7 of A in CY. -/
theorem complete_rotateA_left (s : State) (b : Bool) :
    complete 1 (s.rotateA (s.regs.a <<< 1 ||| bit0 b) (s.regs.a.getLsbD 7)) =
      .next (afterRotate s (2 * s.regs.a.toNat + b.toNat) (decide (s.regs.a.toNat ≥ 128))) := by
  rw [shiftLeft_or_bit0, getLsbD_seven_eq_decide]
  rfl

/-- What RRC and RAR share: A shifted right, `b` put in at bit 7, and bit 0 of A in CY. -/
theorem complete_rotateA_right (s : State) (b : Bool) :
    complete 1 (s.rotateA (s.regs.a >>> 1 ||| bit0 b <<< 7) (s.regs.a.getLsbD 0)) =
      .next (afterRotate s (s.regs.a.toNat / 2 + 128 * b.toNat) (decide (s.regs.a.toNat % 2 = 1))) := by
  rw [shiftRight_or_bit0, getLsbD_zero_eq_decide]
  rfl

/-- Settles O58: RAL and RAR put the old CY in; RLC and RRC put in the bit shifted out, as a number A div 128 and
A mod 2. -/
theorem rotatesMoveTheShiftedBitToCarry : Obligations.RotatesMoveTheShiftedBitToCarry := by
  refine ⟨rfl, rfl, rfl, rfl, fun s => ⟨?rlc, ?rrc, ?ral, ?rar⟩⟩
  case rlc => exact (complete_rotateA_left s (s.regs.a.getLsbD 7)).trans (by rw [getLsbD_seven_toNat])
  case rrc => exact (complete_rotateA_right s (s.regs.a.getLsbD 0)).trans (by rw [getLsbD_zero_toNat])
  case ral => exact complete_rotateA_left s s.flags.cy
  case rar => exact complete_rotateA_right s s.flags.cy

end Sys2Proof.Machine
end

section
/-! PROOFS. The opcode map and the encoder are inverse to each other (30_encoding.md rules R101, R103, R110 to R114). -/

namespace Sys2Proof

open Sys2Proof.Claims

/-- The descriptor of the opcode byte `op` holds the instruction `i`, and everything it holds is encoded as `op` and its
operand bytes, the low one first (R101). -/
def Descriptor.Covers (op : Byte) (i : Instr) : Descriptor → Prop
  | .bare j => i = j ∧ encode j = [op]
  | .withByte k => (∃ d8, i = k d8) ∧ ∀ d8, encode (k d8) = [op, d8]
  | .withWord k => (∃ w, i = k w) ∧ ∀ w, encode (k w) = [op, lowByte w, highByte w]

/-- The patterns of R103 lead back to the map of R111: each instruction stands in the map where its own opcode byte
points. Rewriting with `opcodeOf` first takes the operand out of that byte, so that the place in the map is a closed
term. -/
theorem descriptorOf_opcodeOf_covers (i : Instr) : (descriptorOf (opcodeOf i)).Covers (opcodeOf i) i := by
  cases i with
  | lxiB w | lxiD w | lxiH w | shld w | lhld w | lxiSP w | sta w | lda w | jnz w | jmp w | cnz w | jz w | cz w | call w
  | jnc w | cnc w | jc w | cc w | jpo w | cpo w | jpe w | cpe w | jp w | cp w | jm w | cm w =>
    rw [opcodeOf]
    exact And.intro (Exists.intro w rfl) fun _ => rfl
  | mviB d8 | mviC d8 | mviD d8 | mviE d8 | mviH d8 | mviL d8 | mviM d8 | mviA d8 | adi d8 | aci d8 | outPort d8
  | sui d8 | inPort d8 | sbi d8 | ani d8 | xri d8 | ori d8 | cpi d8 =>
    rw [opcodeOf]
    exact And.intro (Exists.intro d8 rfl) fun _ => rfl
  | _ => exact And.intro rfl rfl

/-- What a descriptor gives when its operand bytes are 0. -/
def Descriptor.atZero : Descriptor → Instr
  | .bare i => i
  | .withByte k => k 0
  | .withWord k => k 0

theorem opcodeOf_atZero_cases : ∀ n : Fin 256,
    opcodeOf (descriptorOf (BitVec.ofFin n)).atZero = BitVec.ofFin n := by decide +kernel

/-- Every byte is the opcode byte of some instruction (R112). -/
theorem exists_opcodeOf (op : Byte) : ∃ i, opcodeOf i = op := ⟨_, opcodeOf_atZero_cases op.toFin⟩

/-! ### The encoding, read off the map -/

theorem encode_of_bare {op : Byte} {i : Instr} (h : descriptorOf op = .bare i) : encode i = [op] := by
  obtain ⟨j, rfl⟩ := exists_opcodeOf op
  have hcovers := descriptorOf_opcodeOf_covers j
  rw [h] at hcovers
  exact hcovers.2

theorem encode_of_withByte {op : Byte} {k : Byte → Instr} (h : descriptorOf op = .withByte k) (d8 : Byte) :
    encode (k d8) = [op, d8] := by
  obtain ⟨j, rfl⟩ := exists_opcodeOf op
  have hcovers := descriptorOf_opcodeOf_covers j
  rw [h] at hcovers
  exact hcovers.2 d8

theorem encode_of_withWord {op : Byte} {k : Word16 → Instr} (h : descriptorOf op = .withWord k) (w : Word16) :
    encode (k w) = [op, lowByte w, highByte w] := by
  obtain ⟨j, rfl⟩ := exists_opcodeOf op
  have hcovers := descriptorOf_opcodeOf_covers j
  rw [h] at hcovers
  exact hcovers.2 w

/-- Settles O1: the descriptor of `i`'s opcode byte covers `i`, and decoding follows that descriptor. -/
theorem decodeOfEncodeIsTheInstruction : Obligations.DecodeOfEncodeIsTheInstruction := by
  intro i rest
  refine ⟨?_, ?_⟩
  · rw [Instr.wellFormed]
    cases i.format <;> rfl
  · have hcovers := descriptorOf_opcodeOf_covers i
    generalize opcodeOf i = op at hcovers
    cases hd : descriptorOf op with
    | bare j =>
      rw [hd] at hcovers
      obtain ⟨rfl, encoded⟩ := hcovers
      rw [encoded]
      exact decode_bare hd rest
    | withByte k =>
      rw [hd] at hcovers
      obtain ⟨⟨d8, rfl⟩, encoded⟩ := hcovers
      rw [encoded]
      exact decode_withByte hd d8 rest
    | withWord k =>
      rw [hd] at hcovers
      obtain ⟨⟨w, rfl⟩, encoded⟩ := hcovers
      have hdecode := decode_withWord hd (lowByte w) (highByte w) rest
      rw [pairOf_highByte_lowByte] at hdecode
      rw [encoded]
      exact hdecode

/-- Settles O2: in each of the three formats the bytes read are those the map's entry is encoded as. -/
theorem decodedBytesAreTheEncoding : Obligations.DecodedBytesAreTheEncoding := by
  intro bs rest i h
  obtain ⟨op, hop, rfl⟩ | ⟨op, k, d8, hop, rfl, rfl⟩ | ⟨op, k, lo, hi, hop, rfl, rfl⟩ := decode_ok_cases h
  · rw [encode_of_bare hop]
    rfl
  · rw [encode_of_withByte hop]
    rfl
  · rw [encode_of_withWord hop, lowByte_pairOf, highByte_pairOf]
    rfl

/-! ### The opcode byte and what decoding makes of it -/

theorem opcodeOf_eq_of_encode {i : Instr} {op : Byte} {operands : List Byte} (h : encode i = op :: operands) :
    opcodeOf i = op := (List.cons.inj h).1

/-- Two bytes after an opcode byte always suffice: they decode to an instruction of that byte, and what is left begins
after the bytes of its encoding, as many as the table of R110 says. -/
theorem decode_opcode_cons (op b1 b2 : Byte) (rest : List Byte) :
    ∃ i, opcodeOf i = op ∧ (encode i).length = opcodeLength op ∧
      decode (op :: b1 :: b2 :: rest) = .ok (i, (op :: b1 :: b2 :: rest).drop (opcodeLength op)) := by
  rw [← descriptorOf_length op]
  cases hd : descriptorOf op with
  | bare i =>
    have hencode := encode_of_bare hd
    exact ⟨i, opcodeOf_eq_of_encode hencode, congrArg List.length hencode, decode_bare hd _⟩
  | withByte k =>
    have hencode := encode_of_withByte hd b1
    exact ⟨k b1, opcodeOf_eq_of_encode hencode, congrArg List.length hencode, decode_withByte hd b1 _⟩
  | withWord k =>
    have hencode := encode_of_withWord hd (pairOf b2 b1)
    exact ⟨k (pairOf b2 b1), opcodeOf_eq_of_encode hencode, congrArg List.length hencode, decode_withWord hd b1 b2 _⟩

/-- Settles O4: the two lists in the statement are those of `opcodeLength`. -/
theorem opcodeByteFixesTheLength : Obligations.OpcodeByteFixesTheLength := decode_opcode_cons

/-- An opcode byte without operands belongs to one instruction alone. -/
theorem opcodeOf_eq_iff_of_bare {op : Byte} {j : Instr} (h : descriptorOf op = .bare j) (i : Instr) :
    opcodeOf i = op ↔ i = j := by
  refine ⟨fun hop => ?_, fun hij => hij ▸ opcodeOf_eq_of_encode (encode_of_bare h)⟩
  have hcovers := descriptorOf_opcodeOf_covers i
  rw [hop, h] at hcovers
  exact hcovers.1

/-- The map has each reserved instruction at the byte R113 gives it. -/
theorem descriptorOf_reserved {e : Byte × Instr} (h : e ∈ Instr.reservedTable) : descriptorOf e.1 = .bare e.2 := by
  fin_cases h <;> rfl

theorem opcodeOf_reserved {e : Byte × Instr} (h : e ∈ Instr.reservedTable) : opcodeOf e.2 = e.1 :=
  opcodeOf_eq_of_encode (encode_of_bare (descriptorOf_reserved h))

/-- An instruction is reserved exactly when its opcode byte is one of the twelve (R113). -/
theorem isReserved_iff (i : Instr) : IsReserved i ↔ opcodeOf i ∈ reservedBytes := by
  have hbytes : reservedBytes = Instr.reservedTable.map Prod.fst := rfl
  rw [hbytes, List.mem_map]
  refine exists_congr fun e => and_congr_right fun he => ?_
  rw [eq_comm (a := e.1), opcodeOf_eq_iff_of_bare (descriptorOf_reserved he)]

/-- Settles O5: the decoded instruction has the byte it was decoded from, which says whether it is reserved and which
entry of the table it is. -/
theorem reservedBytesAreTheTwelve : Obligations.ReservedBytesAreTheTwelve := by
  refine ⟨rfl, fun op b1 b2 => ?_, fun b1 b2 => decode_bare (op := 0x76) rfl [b1, b2]⟩
  obtain ⟨i, rfl, -, hdecode⟩ := decode_opcode_cons op b1 b2 []
  exact ⟨i, _, hdecode, isReserved_iff i, fun e he hi => hi ▸ opcodeOf_reserved he⟩

/-- Settles O6: a descriptor is as long as its opcode byte's length, so the operand bytes its format needs are not all
there. -/
theorem missingOperandIsRejectedByName : Obligations.MissingOperandIsRejectedByName := by
  refine ⟨rfl, fun op bs hshort => ?_⟩
  rw [← descriptorOf_length op] at hshort
  cases hd : descriptorOf op with
  | bare i =>
    rw [hd, Descriptor.length] at hshort
    omega
  | withByte k =>
    rw [hd, Descriptor.length] at hshort
    match bs with
    | [] => simp [decode, hd]
    | _ :: _ => exact absurd hshort (by simp)
  | withWord k =>
    rw [hd, Descriptor.length] at hshort
    match bs with
    | [] | [_] => simp [decode, hd]
    | _ :: _ :: _ => exact absurd hshort (by simp)

/-- Settles O3: word by word, the map's entry for its opcode byte and the operand bytes after it. -/
theorem wordsWrittenOutDecode : Obligations.WordsWrittenOutDecode :=
  ⟨rfl, rfl, rfl, rfl, rfl, rfl, rfl, rfl, rfl, rfl, rfl, rfl, rfl, rfl, rfl⟩

end Sys2Proof
end

section
/-! PROOFS. What an instruction may touch: one row per form of 30_encoding.md rule R103, after the summaries of the spec
(10_state.md R33, R39, R41, 20_memory.md R76, 40_dispatch.md R143, R420, R423, 41_flag_unit.md R181). -/

namespace Sys2Proof.Machine

open Sys2Proof.Claims

/-! ### The frame of an instruction: every field but pc -/

/-- `i` is in a class that writes flags (R181). -/
def WritesFlags (i : Instr) : Prop := WritesCarryOnly i ∨ WritesAllButCarry i ∨ WritesAllFlags i

/-- `t` differs from `s` only as the spec's summaries let `i` change a state; pc is left open. -/
structure Frame (i : Instr) (s t : State) : Prop where
  sp : t.sp = s.sp ∨ MayWriteSp i
  flags : t.flags = s.flags ∨ WritesFlags i
  inte : t.inte = s.inte ∨ (i = .ei ∧ t.inte = true) ∨ (i = .di ∧ t.inte = false)
  bytes : ∀ x, t.readByte x = s.readByte x ∨ StoresAt i s x
  canonical : s.mem.wf → t.mem.wf
  status : t.status = s.status ∨ i = .hlt ∨ Raises s.cfg i
  cfg : t.cfg = s.cfg

theorem Frame.refl (i : Instr) (s : State) : Frame i s s :=
  ⟨.inl rfl, .inl rfl, .inl rfl, fun _ => .inl rfl, id, .inl rfl, rfl⟩

variable {i : Instr} {s t : State}

theorem Frame.setPc (h : Frame i s t) (pc : Word16) : Frame i s { t with pc := pc } :=
  ⟨h.sp, h.flags, h.inte, h.bytes, h.canonical, h.status, h.cfg⟩

/-- Registers are free: no summary restricts which of A to L an instruction writes. -/
theorem Frame.setRegs (h : Frame i s t) (regs : RegFile) : Frame i s { t with regs := regs } :=
  ⟨h.sp, h.flags, h.inte, h.bytes, h.canonical, h.status, h.cfg⟩

theorem Frame.setFlags (h : Frame i s t) (flags : Flags) (hclass : WritesFlags i) :
    Frame i s { t with flags := flags } :=
  ⟨h.sp, .inr hclass, h.inte, h.bytes, h.canonical, h.status, h.cfg⟩

theorem Frame.setSp (h : Frame i s t) (sp : Word16) (hsp : MayWriteSp i) : Frame i s { t with sp := sp } :=
  ⟨.inr hsp, h.flags, h.inte, h.bytes, h.canonical, h.status, h.cfg⟩

theorem Frame.writeByte (h : Frame i s t) {a : Word16} (v : Byte) (hstore : StoresAt i s a) :
    Frame i s (t.writeByte a v) where
  sp := h.sp
  flags := h.flags
  inte := h.inte
  bytes x := by
    rw [State.readByte_writeByte]
    split
    · next hx => exact .inr (hx ▸ hstore)
    · exact h.bytes x
  canonical hwf := State.writeByte_wf (h.canonical hwf) a v
  status := h.status
  cfg := h.cfg

theorem Frame.writeWord (h : Frame i s t) {a : Word16} (v : Word16) (hlow : StoresAt i s a)
    (hhigh : StoresAt i s (a + 1)) : Frame i s (t.writeWord a v) :=
  (h.writeByte _ hlow).writeByte _ hhigh

/-- SP - 2 + 1 is SP - 1, also where SP wraps. -/
theorem sub_two_add_one (w : Word16) : w - 2 + 1 = w - 1 := by
  bv_omega

/-- `i` pushes in `s`: it may write SP, and stores to the two addresses below it. -/
structure Pushes (i : Instr) (s : State) : Prop where
  sp : MayWriteSp i
  stores : ∀ x, x = s.sp - 2 ∨ x = s.sp - 1 → StoresAt i s x

theorem Frame.push16 (h : Pushes i s) (v : Word16) : Frame i s (s.push16 v) :=
  ((Frame.refl i s).setSp _ h.sp).writeWord v (h.stores _ (.inl rfl)) (h.stores _ (.inr (sub_two_add_one s.sp)))

/-- Writing a pair writes registers alone, unless the pair is SP. -/
theorem Frame.setPair (h : Frame i s t) (p : Pair) (v : Word16) (hsp : p = .sp → MayWriteSp i) :
    Frame i s (t.setPair p v) := by
  cases p with
  | bc | de | hl => exact h.setRegs _
  | sp => exact h.setSp v (hsp rfl)

/-- Writing an operand writes one register, or the byte at HL. -/
theorem Frame.setOperand8 (o : Operand8) (v : Byte) (hstore : o = .m → StoresAt i s s.regs.hl) :
    Frame i s (s.setOperand8 o v) := by
  cases o with
  | reg r => exact (Frame.refl i s).setRegs _
  | m => exact (Frame.refl i s).writeByte v (hstore rfl)

/-! ### The row of an instruction: its frame and where pc goes -/

/-- `i` completes from `s` (R423) within its frame, and pc moves past `i` unless its rule assigns pc or raises
(R143). -/
def Row (i : Instr) (s : State) : Prop :=
  ∃ t, exec i s = .next t ∧ Frame i s t ∧
    (t.pc = s.pc + BitVec.ofNat 16 (encode i).length ∨ AssignsPc i s.flags ∨ Raises s.cfg i)

/-- The row of a rule that ends by moving past the instruction. -/
theorem row_of_complete {len : Nat} (hexec : exec i s = complete len t) (hframe : Frame i s t)
    (hlen : (encode i).length = len) (hpc : t.pc = s.pc) : Row i s :=
  ⟨t.advance len, hexec, hframe.setPc _, .inl (by rw [State.advance_pc, hpc, hlen])⟩

/-- The row of a rule that ends by jumping. -/
theorem row_of_jump {target : Word16} (hexec : exec i s = jumpTo target t) (hframe : Frame i s t)
    (hassigns : AssignsPc i s.flags) : Row i s :=
  ⟨{ t with pc := target }, hexec, hframe.setPc target, .inr (.inl hassigns)⟩

/-- The row of a rule that moves past the instruction and does nothing else. -/
theorem row_of_idle {len : Nat} (hexec : exec i s = complete len s) (hlen : (encode i).length = len) : Row i s :=
  row_of_complete hexec (Frame.refl i s) hlen rfl

/-- The row of a rule that writes registers and no flag. -/
theorem row_of_regs {len : Nat} (hexec : exec i s = complete len t) (hlen : (encode i).length = len)
    (hwrites : t = { s with regs := t.regs } := by rfl) : Row i s := by
  rw [hwrites] at hexec
  exact row_of_complete hexec ((Frame.refl i s).setRegs _) hlen rfl

/-- The row of a rule that writes registers and the flags of its class. -/
theorem row_of_flags {len : Nat} (hexec : exec i s = complete len t) (hlen : (encode i).length = len)
    (hclass : WritesFlags i) (hwrites : t = { s with regs := t.regs, flags := t.flags }) : Row i s := by
  rw [hwrites] at hexec
  exact row_of_complete hexec (((Frame.refl i s).setRegs _).setFlags _ hclass) hlen rfl

/-- The row of a rule that writes CY alone of the flags; the class is found by going through its members. -/
theorem row_of_carry {len : Nat} (hexec : exec i s = complete len t) (hlen : (encode i).length = len)
    (hclass : WritesCarryOnly i := by simp [WritesCarryOnly])
    (hwrites : t = { s with regs := t.regs, flags := t.flags } := by rfl) : Row i s :=
  row_of_flags hexec hlen (.inl hclass) hwrites

/-- The row of a rule that writes all five flags; the class is found by going through its members. -/
theorem row_of_allFlags {len : Nat} (hexec : exec i s = complete len t) (hlen : (encode i).length = len)
    (hclass : WritesAllFlags i := by simp [WritesAllFlags, exists_or])
    (hwrites : t = { s with regs := t.regs, flags := t.flags } := by rfl) : Row i s :=
  row_of_flags hexec hlen (.inr (.inr hclass)) hwrites

/-- A call, taken, pushes and jumps (R330, R331, R334). -/
theorem row_of_call {len : Nat} {target : Word16} (hexec : exec i s = callTo len target s) (hpush : Pushes i s)
    (hassigns : AssignsPc i s.flags) : Row i s :=
  row_of_jump hexec (Frame.push16 hpush _) hassigns

/-- A return, taken, pops and jumps (R332, R333). -/
theorem row_of_return (hexec : exec i s = returnToTop s) (hsp : MayWriteSp i) (hassigns : AssignsPc i s.flags) :
    Row i s :=
  row_of_jump hexec ((Frame.refl i s).setSp _ hsp) hassigns

/-- The row of a rule that raises: the status and nothing else, pc included (R146). -/
theorem row_of_raise {op : Byte} (hexec : exec i s = raiseUnimplemented op s) (hraises : Raises s.cfg i) : Row i s :=
  ⟨{ s with status := .faulted op s.pc }, hexec,
    ⟨.inl rfl, .inl rfl, .inl rfl, fun _ => .inl rfl, id, .inr (.inr hraises), rfl⟩, .inr (.inr hraises)⟩

/-! ### The words of the forms that no statement writes out -/

theorem encode_adc (o : Operand8) : encode (.adc o) = [0b10001#5 ++ o.code] := by
  cases o with
  | reg r => cases r <;> rfl
  | m => rfl

theorem encode_sub (o : Operand8) : encode (.sub o) = [0b10010#5 ++ o.code] := by
  cases o with
  | reg r => cases r <;> rfl
  | m => rfl

theorem encode_sbb (o : Operand8) : encode (.sbb o) = [0b10011#5 ++ o.code] := by
  cases o with
  | reg r => cases r <;> rfl
  | m => rfl

theorem encode_inr (o : Operand8) : encode (.inr o) = [0b00#2 ++ o.code ++ 0b100#3] := by
  cases o with
  | reg r => exact encode_inr_reg r
  | m => rfl

theorem encode_dcr (o : Operand8) : encode (.dcr o) = [0b00#2 ++ o.code ++ 0b101#3] := by
  cases o with
  | reg r => cases r <;> rfl
  | m => rfl

theorem encode_mvi (o : Operand8) (d8 : Byte) : encode (.mvi o d8) = [0b00#2 ++ o.code ++ 0b110#3, d8] := by
  cases o with
  | reg r => exact encode_mvi_reg r d8
  | m => rfl

theorem encode_lxi (p : Pair) (d16 : Word16) :
    encode (.lxi p d16) = [0b00#2 ++ p.code ++ 0b0001#4, lowByte d16, highByte d16] := by cases p <;> rfl

/-! ### The instructions that push -/

theorem pushes_push (p : StackPair) (s : State) : Pushes (.push p) s where
  sp := by simp [MayWriteSp, exists_or]
  stores _ hx := .inr (.inr (.inr (.inr (.inr ⟨.inl ⟨p, rfl⟩, hx⟩))))

theorem pushes_pushPSW (s : State) : Pushes .pushPSW s where
  sp := by simp [MayWriteSp]
  stores _ hx := .inr (.inr (.inr (.inr (.inr ⟨.inr (.inl rfl), hx⟩))))

theorem pushes_call (a16 : Word16) (s : State) : Pushes (.call a16) s where
  sp := by simp [MayWriteSp]
  stores _ hx := .inr (.inr (.inr (.inr (.inr ⟨.inr (.inr (.inl ⟨a16, rfl⟩)), hx⟩))))

theorem pushes_callIf {k : Cond} (h : s.flags.cond k = true) (a16 : Word16) : Pushes (.callIf k a16) s where
  sp := by simp [MayWriteSp]
  stores _ hx := .inr (.inr (.inr (.inr (.inr ⟨.inr (.inr (.inr (.inl ⟨k, a16, rfl, h⟩))), hx⟩))))

theorem pushes_rst (n : Fin 8) (s : State) : Pushes (.rst n) s where
  sp := by simp [MayWriteSp]
  stores _ hx := .inr (.inr (.inr (.inr (.inr ⟨.inr (.inr (.inr (.inr ⟨n, rfl⟩))), hx⟩))))

/-! ### The rows of the forms whose rule depends on the state -/

theorem row_jumpIf (k : Cond) (a16 : Word16) (s : State) : Row (.jumpIf k a16) s := by
  cases h : s.flags.cond k with
  | true =>
    exact row_of_jump ((exec_jumpIf k a16 s).trans (jumpWhen_of_cond h a16)) (Frame.refl _ s)
      (.inr (.inl ⟨k, a16, rfl, h⟩))
  | false =>
    exact row_of_idle ((exec_jumpIf k a16 s).trans (jumpWhen_of_not_cond h a16))
      (congrArg List.length (encode_jumpIf k a16))

theorem row_callIf (k : Cond) (a16 : Word16) (s : State) : Row (.callIf k a16) s := by
  cases h : s.flags.cond k with
  | true =>
    exact row_of_call ((exec_callIf k a16 s).trans (callWhen_of_cond h a16)) (pushes_callIf h a16)
      (.inr (.inr (.inr (.inr (.inl ⟨k, a16, rfl, h⟩)))))
  | false =>
    exact row_of_idle ((exec_callIf k a16 s).trans (callWhen_of_not_cond h a16))
      (congrArg List.length (encode_callIf k a16))

theorem row_returnIf (k : Cond) (s : State) : Row (.returnIf k) s := by
  cases h : s.flags.cond k with
  | true =>
    exact row_of_return ((exec_returnIf k s).trans (returnWhen_of_cond h))
      (by simp [MayWriteSp]) (.inr (.inr (.inr (.inr (.inr (.inr (.inl ⟨k, rfl, h⟩)))))))
  | false =>
    exact row_of_idle ((exec_returnIf k s).trans (returnWhen_of_not_cond h))
      (congrArg List.length (encode_returnIf k))

/-! ### Reserved bytes and DAA under their parameters -/

theorem executeReserved_of_fault (h : s.cfg.reservedPolicy = .fault) (op : Byte) :
    executeReserved op s = raiseUnimplemented op s := by rw [executeReserved, h]

theorem executeReserved_of_noOp1 (h : s.cfg.reservedPolicy = .noOp1) (op : Byte) :
    executeReserved op s = complete 1 s := by rw [executeReserved, h]

theorem exec_daa_of_reference (h : s.cfg.daaMode = .reference) : exec .daa s = complete 1 s.decimalAdjust := by
  have hexec : exec .daa s = execDaa s := rfl
  rw [hexec, execDaa, h]

theorem exec_daa_of_fault (h : s.cfg.daaMode = .fault) : exec .daa s = raiseUnimplemented 0x27 s := by
  have hexec : exec .daa s = execDaa s := rfl
  rw [hexec, execDaa, h]

theorem row_reserved {e : Byte × Instr} (he : e ∈ Instr.reservedTable) (s : State) : Row e.2 s := by
  cases h : s.cfg.reservedPolicy with
  | fault =>
    exact row_of_raise ((exec_reserved he s).trans (executeReserved_of_fault h e.1)) (.inl ⟨⟨e, he, rfl⟩, h⟩)
  | noOp1 =>
    exact row_of_idle ((exec_reserved he s).trans (executeReserved_of_noOp1 h e.1))
      (congrArg List.length (encode_of_bare (descriptorOf_reserved he)))

theorem row_daa (s : State) : Row .daa s := by
  cases h : s.cfg.daaMode with
  | reference => exact row_of_allFlags (exec_daa_of_reference h) rfl
  | fault => exact row_of_raise (exec_daa_of_fault h) (.inr ⟨rfl, h⟩)

/-! ### The rows of the other forms -/

/-- INR and DCR write one operand and every flag but CY. -/
theorem row_inr (o : Operand8) (s : State) : Row (.inr o) s :=
  row_of_complete (exec_inr o s)
    ((Frame.setOperand8 o _ fun ho => .inl ⟨.inr (.inr (.inl (ho ▸ rfl))), rfl⟩).setFlags _ (.inr (.inl ⟨o, .inl rfl⟩)))
    (congrArg List.length (encode_inr o)) (State.setOperand8_pc s o _)

theorem row_dcr (o : Operand8) (s : State) : Row (.dcr o) s :=
  row_of_complete (exec_dcr o s)
    ((Frame.setOperand8 o _ fun ho => .inl ⟨.inr (.inr (.inr (ho ▸ rfl))), rfl⟩).setFlags _ (.inr (.inl ⟨o, .inr rfl⟩)))
    (congrArg List.length (encode_dcr o)) (State.setOperand8_pc s o _)

/-- HLT writes the status, EI and DI write INTE; each moves past itself. -/
theorem row_hlt (s : State) : Row .hlt s :=
  ⟨_, rfl, ⟨.inl rfl, .inl rfl, .inl rfl, fun _ => .inl rfl, id, .inr (.inl rfl), rfl⟩, .inl rfl⟩

theorem row_ei (s : State) : Row .ei s :=
  ⟨_, rfl, ⟨.inl rfl, .inl rfl, .inr (.inl ⟨rfl, rfl⟩), fun _ => .inl rfl, id, .inl rfl, rfl⟩, .inl rfl⟩

theorem row_di (s : State) : Row .di s :=
  ⟨_, rfl, ⟨.inl rfl, .inl rfl, .inr (.inr ⟨rfl, rfl⟩), fun _ => .inl rfl, id, .inl rfl, rfl⟩, .inl rfl⟩

/-- R143, R423 and the summaries, for all 256 instructions: every instruction has its row. -/
theorem row (i : Instr) (s : State) : Row i s :=
  Instr.by_form (P := (Row · s))
    (hNop := row_of_idle rfl rfl)
    (hLxi := fun p d16 => row_of_complete (exec_lxi p d16 s)
      ((Frame.refl _ s).setPair p d16 fun hp => .inl ⟨d16, hp ▸ rfl⟩)
      (congrArg List.length (encode_lxi p d16)) (State.setPair_pc s p d16))
    (hStax := fun p => row_of_complete (exec_stax p s) ((Frame.refl _ s).writeByte _ (.inr (.inl ⟨p, rfl, rfl⟩)))
      (congrArg List.length (encode_stax p)) rfl)
    (hInx := fun p => row_of_complete (exec_inx p s)
      ((Frame.refl _ s).setPair p _ fun hp => .inr (.inl (hp ▸ rfl)))
      (congrArg List.length (encode_inx p)) (State.setPair_pc s p _))
    (hInr := (row_inr · s))
    (hDcr := (row_dcr · s))
    (hMvi := fun o d8 => row_of_complete (exec_mvi o d8 s)
      (Frame.setOperand8 o d8 fun ho => .inl ⟨.inr (.inl ⟨d8, ho ▸ rfl⟩), rfl⟩)
      (congrArg List.length (encode_mvi o d8)) (State.setOperand8_pc s o d8))
    (hRlc := row_of_carry rfl rfl)
    (hReserved := fun _ he => row_reserved he s)
    (hDad := fun p => row_of_carry (exec_dad p s) (congrArg List.length (encode_dad p)))
    (hLdax := fun p => row_of_regs (exec_ldax p s) (congrArg List.length (encode_ldax p)))
    (hDcx := fun p => row_of_complete (exec_dcx p s)
      ((Frame.refl _ s).setPair p _ fun hp => .inr (.inr (.inl (hp ▸ rfl))))
      (congrArg List.length (encode_dcx p)) (State.setPair_pc s p _))
    (hRrc := row_of_carry rfl rfl)
    (hRal := row_of_carry rfl rfl)
    (hRar := row_of_carry rfl rfl)
    (hShld := fun _ => row_of_complete rfl
      ((Frame.refl _ s).writeWord _ (by simp [StoresAt]) (by simp [StoresAt])) rfl rfl)
    (hDaa := row_daa s)
    (hLhld := fun _ => row_of_regs rfl rfl)
    (hCma := row_of_regs rfl rfl)
    (hSta := fun _ => row_of_complete rfl ((Frame.refl _ s).writeByte _ (.inr (.inr (.inl rfl)))) rfl rfl)
    (hStc := row_of_carry rfl rfl)
    (hLda := fun _ => row_of_regs rfl rfl)
    (hCmc := row_of_carry rfl rfl)
    (hMov := fun dst src => row_of_regs (exec_mov dst src s) (congrArg List.length (encode_mov dst src)))
    (hMovRM := fun dst => row_of_regs (exec_movRM dst s) (congrArg List.length (encode_movRM dst)))
    (hMovMR := fun src => row_of_complete (exec_movMR src s)
      ((Frame.refl _ s).writeByte _ (.inl ⟨.inl ⟨src, rfl⟩, rfl⟩)) (congrArg List.length (encode_movMR src)) rfl)
    (hHlt := row_hlt s)
    (hAdd := fun o => row_of_allFlags (exec_add o s) (congrArg List.length (encode_add o)))
    (hAdc := fun o => row_of_allFlags (exec_adc o s) (congrArg List.length (encode_adc o)))
    (hSub := fun o => row_of_allFlags (exec_sub o s) (congrArg List.length (encode_sub o)))
    (hSbb := fun o => row_of_allFlags (exec_sbb o s) (congrArg List.length (encode_sbb o)))
    (hAna := fun o => row_of_allFlags (exec_ana o s) (congrArg List.length (encode_logicOperand o).1))
    (hXra := fun o => row_of_allFlags (exec_xra o s) (congrArg List.length (encode_logicOperand o).2.1))
    (hOra := fun o => row_of_allFlags (exec_ora o s) (congrArg List.length (encode_logicOperand o).2.2))
    (hCmp := fun o => row_of_allFlags (exec_cmp o s) (congrArg List.length (encode_cmp o)))
    (hReturnIf := (row_returnIf · s))
    (hPop := fun p => row_of_complete (exec_pop p s)
      (((Frame.refl _ s).setSp _ (by simp [MayWriteSp, exists_or])).setPair p.toPair _
        fun hp => absurd hp (StackPair.toPair_ne_sp p))
      (congrArg List.length (encode_pop p)) (State.setPair_pc _ _ _))
    (hJumpIf := (row_jumpIf · · s))
    (hJmp := fun a16 => row_of_jump rfl (Frame.refl _ s) (.inl ⟨a16, rfl⟩))
    (hCallIf := (row_callIf · · s))
    (hPush := fun p => row_of_complete (exec_push p s) (Frame.push16 (pushes_push p s) _)
      (congrArg List.length (encode_push p)) rfl)
    (hAdi := fun _ => row_of_allFlags rfl rfl)
    (hRst := fun n => row_of_call (exec_rst n s) (pushes_rst n s) (by simp [AssignsPc]))
    (hRet := row_of_return rfl (by simp [MayWriteSp]) (by simp [AssignsPc]))
    (hCall := fun a16 => row_of_call rfl (pushes_call a16 s) (by simp [AssignsPc]))
    (hAci := fun _ => row_of_allFlags rfl rfl)
    (hOutPort := fun _ => row_of_idle rfl rfl)
    (hSui := fun _ => row_of_allFlags rfl rfl)
    (hInPort := fun _ => row_of_idle rfl rfl)
    (hSbi := fun _ => row_of_allFlags rfl rfl)
    (hXthl := row_of_complete rfl
      (((Frame.refl _ s).writeWord _ (by simp [StoresAt]) (by simp [StoresAt])).setRegs _) rfl rfl)
    (hAni := fun _ => row_of_allFlags rfl rfl)
    (hPchl := row_of_jump rfl (Frame.refl _ s) (.inr (.inr (.inl rfl))))
    (hXchg := row_of_regs rfl rfl)
    (hXri := fun _ => row_of_allFlags rfl rfl)
    (hPopPSW := row_of_complete rfl
      ((((Frame.refl _ s).setSp _ (by simp [MayWriteSp])).setRegs _).setFlags _ (.inr (.inr (.inr (.inr (.inr rfl))))))
      rfl rfl)
    (hDi := row_di s)
    (hPushPSW := row_of_complete rfl (Frame.push16 (pushes_pushPSW s) _) rfl rfl)
    (hOri := fun _ => row_of_allFlags rfl rfl)
    (hSphl := row_of_complete rfl ((Frame.refl _ s).setSp _ (.inr (.inr (.inr (.inl rfl))))) rfl rfl)
    (hEi := row_ei s)
    (hCpi := fun _ => row_of_allFlags rfl rfl)
    i

end Sys2Proof.Machine
end

section
/-! PROOFS. The rules of the whole machine, from the rows of the instructions (10_state.md R33, R39, R41, R47,
20_memory.md R76, 40_dispatch.md R143, R423, 41_flag_unit.md R181). -/

namespace Sys2Proof.Machine

open Sys2Proof.Claims

/-- The frame of whatever an instruction answers. -/
theorem frame_of_exec {i : Instr} {s t : State} (h : exec i s = .next t) : Frame i s t := by
  obtain ⟨u, hexec, hframe, -⟩ := row i s
  obtain rfl : u = t := Host.Outcome.next.inj (hexec.symm.trans h)
  exact hframe

/-- Settles O15: the row of `i` says so. -/
theorem everyInstructionCompletesAndAdvances : Obligations.EveryInstructionCompletesAndAdvances := by
  intro i s
  obtain ⟨t, hexec, -, hpc⟩ := row i s
  exact ⟨t, hexec, fun hjump hraise => hpc.resolve_right (not_or.mpr ⟨hjump, hraise⟩)⟩

/-- Settles O16: the frame bounds the bytes that differ. -/
theorem onlyTheTableOfStoresWritesMemory : Obligations.OnlyTheTableOfStoresWritesMemory :=
  fun _ _ _ x h hne => ((frame_of_exec h).bytes x).resolve_left hne

/-- DAD, the rotates, STC and CMC put one bit into CY and leave the other flags (R180, R181). -/
theorem flags_of_writesCarryOnly {i : Instr} {s t : State} (hi : WritesCarryOnly i) (h : exec i s = .next t) :
    t.flags = { s.flags with cy := t.flags.cy } := by
  obtain ⟨p, rfl⟩ | rfl | rfl | rfl | rfl | rfl | rfl := hi
  · rw [exec_dad] at h
    rw [complete_eq_next.mp h]
    rfl
  all_goals
    rw [complete_eq_next.mp h]
    rfl

/-- INR and DCR keep CY (R180). -/
theorem cy_of_writesAllButCarry {i : Instr} {s t : State} (hi : WritesAllButCarry i) (h : exec i s = .next t) :
    t.flags.cy = s.flags.cy := by
  obtain ⟨o, rfl | rfl⟩ := hi
  · rw [exec_inr] at h
    rw [complete_eq_next.mp h]
    rfl
  · rw [exec_dcr] at h
    rw [complete_eq_next.mp h]
    rfl

/-- Settles O17: outside the classes the frame keeps the flags; two of the classes keep a part of them. -/
theorem untouchedFlagsKeepTheirValue : Obligations.UntouchedFlagsKeepTheirValue := by
  refine fun i s t h => ⟨fun hcarry hbut hall => ?_, (flags_of_writesCarryOnly · h), (cy_of_writesAllButCarry · h)⟩
  exact (frame_of_exec h).flags.resolve_right (not_or.mpr ⟨hcarry, not_or.mpr ⟨hbut, hall⟩⟩)

/-- Settles O18: the frame says what INTE can become. -/
theorem onlyEiAndDiWriteInte : Obligations.OnlyEiAndDiWriteInte :=
  fun _ _ _ h hne => (frame_of_exec h).inte.resolve_left hne

/-- A conditional call or return whose condition does not hold leaves SP (R331, R333). -/
theorem sp_of_not_cond {i : Instr} {s t : State} {k : Cond} {a16 : Word16} (hi : i = .callIf k a16 ∨ i = .returnIf k)
    (hcond : s.flags.cond k = false) (h : exec i s = .next t) : t.sp = s.sp := by
  obtain rfl | rfl := hi
  · rw [exec_callIf, callWhen_of_not_cond hcond] at h
    rw [complete_eq_next.mp h, State.advance_sp]
  · rw [exec_returnIf, returnWhen_of_not_cond hcond] at h
    rw [complete_eq_next.mp h, State.advance_sp]

/-- Settles O19: the frame names the instructions, and a conditional one that is not taken leaves SP. -/
theorem onlyTheTableOfRegistersWritesSp : Obligations.OnlyTheTableOfRegistersWritesSp := by
  refine fun i s t h hne => ⟨(frame_of_exec h).sp.resolve_left hne, fun k a16 hi => ?_⟩
  by_contra hcond
  exact hne (sp_of_not_cond hi (Bool.eq_false_of_not_eq_true hcond) h)

/-! ### The parameters -/

/-- The parameters of the state an instruction answers, replaced. -/
def withCfg (cfg : Config) : Result → Result
  | .next t => .next { t with cfg := cfg }
  | .fault r => .fault r
  | .refused r => .refused r

theorem jumpWhen_withCfg (k : Cond) (a16 : Word16) (s : State) (cfg : Config) :
    jumpWhen k a16 { s with cfg := cfg } = withCfg cfg (jumpWhen k a16 s) := by
  rw [jumpWhen, jumpWhen, apply_ite (withCfg cfg)]
  rfl

theorem callWhen_withCfg (k : Cond) (a16 : Word16) (s : State) (cfg : Config) :
    callWhen k a16 { s with cfg := cfg } = withCfg cfg (callWhen k a16 s) := by
  rw [callWhen, callWhen, apply_ite (withCfg cfg)]
  rfl

theorem returnWhen_withCfg (k : Cond) (s : State) (cfg : Config) :
    returnWhen k { s with cfg := cfg } = withCfg cfg (returnWhen k s) := by
  rw [returnWhen, returnWhen, apply_ite (withCfg cfg)]
  rfl

/-- No rule but those of the reserved bytes and of DAA mentions the parameters (R115, R262, R397). -/
theorem exec_withCfg {i : Instr} (hreserved : ¬IsReserved i) (hdaa : i ≠ .daa) (s : State) (cfg : Config) :
    exec i { s with cfg := cfg } = withCfg cfg (exec i s) := by
  cases i with
  | reserved08 | reserved10 | reserved18 | reserved20 | reserved28 | reserved30 | reserved38 | reservedCB | reservedD9
  | reservedDD | reservedED | reservedFD => exact absurd ((isReserved_iff _).mpr (by decide)) hreserved
  | daa => exact absurd rfl hdaa
  | jnz | jz | jnc | jc | jpo | jpe | jp | jm => exact jumpWhen_withCfg _ _ s cfg
  | cnz | cz | cnc | cc | cpo | cpe | cp | cm => exact callWhen_withCfg _ _ s cfg
  | rnz | rz | rnc | rc | rpo | rpe | rp | rm => exact returnWhen_withCfg _ s cfg
  | _ => rfl

/-- Settles O20: a step keeps the parameters by its frame; an instruction other than the reserved ones and DAA answers
the same with any parameters. -/
theorem parametersAreFixedAndSeldomRead : Obligations.ParametersAreFixedAndSeldomRead := by
  refine ⟨fun s t h => ?_, fun i s cfg hreserved hdaa => ?_⟩
  · obtain ⟨-, hexec⟩ | ⟨-, rfl⟩ := step_cases h
    · exact (frame_of_exec hexec).cfg
    · rfl
  · obtain ⟨t, hexec, -⟩ := row i s
    exact ⟨t, hexec, by rw [exec_withCfg hreserved hdaa, hexec]; rfl⟩

end Sys2Proof.Machine
end

section
/-! PROOFS. The step: statuses, the exception, the invariant, runs, launch and reset (40_dispatch.md rules R141 to R153,
60_exceptions.md rules R420 to R427, 70_reset_and_hazards.md rules R450 to R454). -/

namespace Sys2Proof.Machine

open Sys2Proof.Claims

/-! ### The fetched instruction, by its opcode byte -/

theorem opcodeOf_fetch (s : State) : opcodeOf s.fetch = s.readByte s.pc := by
  obtain ⟨i, hop, hfetch⟩ | ⟨k, hop, hfetch⟩ | ⟨k, hop, hfetch⟩ := fetch_cases s <;> rw [hfetch]
  · exact opcodeOf_eq_of_encode (encode_of_bare hop)
  · exact opcodeOf_eq_of_encode (encode_of_withByte hop _)
  · exact opcodeOf_eq_of_encode (encode_of_withWord hop _)

/-- R114: 0x76 is HLT's byte and no other instruction's. -/
theorem opcodeOf_eq_hlt_iff (i : Instr) : opcodeOf i = 0x76 ↔ i = .hlt := opcodeOf_eq_iff_of_bare rfl i

/-- An instruction raises exactly when its opcode byte does (R420). -/
theorem raises_iff_raisesUnder (cfg : Config) (i : Instr) : Raises cfg i ↔ raisesUnder cfg (opcodeOf i) := by
  have hdaa : opcodeOf i = 0x27 ↔ i = .daa := opcodeOf_eq_iff_of_bare rfl i
  have hbytes : Instr.reservedTable.map Prod.fst = reservedBytes := rfl
  rw [Raises, raisesUnder, isReserved_iff, hdaa, hbytes]

/-! ### What a step from Running answers -/

theorem exec_of_raises {i : Instr} {s : State} (h : Raises s.cfg i) :
    exec i s = .next { s with status := .faulted (opcodeOf i) s.pc } := by
  obtain ⟨⟨e, he, rfl⟩, hpolicy⟩ | ⟨rfl, hmode⟩ := h
  · rw [exec_reserved he, executeReserved_of_fault hpolicy, opcodeOf_reserved he]
    rfl
  · exact exec_daa_of_fault hmode

theorem exec_hlt (s : State) : exec .hlt s = .next { s with pc := s.pc + 1, status := .halted } := rfl

theorem step_of_raises {s : State} (hrunning : s.status = .running) (h : raisesUnder s.cfg (s.readByte s.pc)) :
    step s = .next { s with status := .faulted (s.readByte s.pc) s.pc } := by
  rw [← opcodeOf_fetch] at h ⊢
  rw [step_of_running hrunning, exec_of_raises ((raises_iff_raisesUnder s.cfg s.fetch).mpr h)]

theorem step_of_hlt {s : State} (hrunning : s.status = .running) (h : s.readByte s.pc = 0x76) :
    step s = .next { s with pc := s.pc + 1, status := .halted } := by
  rw [← opcodeOf_fetch, opcodeOf_eq_hlt_iff] at h
  rw [step_of_running hrunning, h, exec_hlt]

/-- Any other step from Running leaves Running, within the frame of the instruction (R144). -/
theorem step_of_other {s : State} (hrunning : s.status = .running) (hhlt : s.readByte s.pc ≠ 0x76)
    (hraises : ¬raisesUnder s.cfg (s.readByte s.pc)) :
    ∃ t, step s = .next t ∧ Frame s.fetch s t ∧ t.status = .running := by
  rw [← opcodeOf_fetch, Ne, opcodeOf_eq_hlt_iff] at hhlt
  rw [← opcodeOf_fetch, ← raises_iff_raisesUnder] at hraises
  obtain ⟨t, hexec, hframe, -⟩ := row s.fetch s
  have hstatus : t.status = s.status := hframe.status.resolve_right (not_or.mpr ⟨hhlt, hraises⟩)
  exact ⟨t, (step_of_running hrunning).trans hexec, hframe, hstatus.trans hrunning⟩

/-- HLT's byte does not raise. -/
theorem not_raisesUnder_hlt (cfg : Config) : ¬raisesUnder cfg 0x76 := by
  rintro (⟨hmem, -⟩ | ⟨hbyte, -⟩)
  · exact absurd hmem (by decide)
  · exact absurd hbyte (by decide)

/-- The status a step returns is computed from its state (log entry 17). -/
theorem stepReturning_of_step {s t : State} (h : step s = .next t) : stepReturning s = some (t, t.returned) := by
  rw [stepReturning, h]

/-- Settles O10: this is `step_of_raises`, the twelve bytes being those of the table. -/
theorem trapChangesOnlyTheStatus : Obligations.TrapChangesOnlyTheStatus := fun _ => step_of_raises

/-- R144: the byte at pc halts, raises or does neither, and each of the three excludes the others. -/
theorem status_after_step {s : State} (hrunning : s.status = .running) :
    ∃ t r, step s = .next t ∧ stepReturning s = some (t, r) ∧
      (s.readByte s.pc = 0x76 → t.status = .halted ∧ r = .halted) ∧
      (raisesUnder s.cfg (s.readByte s.pc) →
        t.status = .faulted (s.readByte s.pc) s.pc ∧ r = .faulted (s.readByte s.pc) s.pc) ∧
      (s.readByte s.pc ≠ 0x76 → ¬raisesUnder s.cfg (s.readByte s.pc) → t.status = .running ∧ r = .continue) := by
  by_cases hraises : raisesUnder s.cfg (s.readByte s.pc)
  · have hstep := step_of_raises hrunning hraises
    refine ⟨_, _, hstep, stepReturning_of_step hstep, fun hhlt => ?_, fun _ => ⟨rfl, rfl⟩, fun _ h => absurd hraises h⟩
    rw [hhlt] at hraises
    exact absurd hraises (not_raisesUnder_hlt s.cfg)
  by_cases hhlt : s.readByte s.pc = 0x76
  · have hstep := step_of_hlt hrunning hhlt
    exact ⟨_, _, hstep, stepReturning_of_step hstep, fun _ => ⟨rfl, rfl⟩, fun h => absurd h hraises,
      fun h => absurd hhlt h⟩
  · obtain ⟨t, hstep, -, hstatus⟩ := step_of_other hrunning hhlt hraises
    have hreturned : t.returned = .continue := by rw [State.returned, hstatus]
    exact ⟨t, _, hstep, stepReturning_of_step hstep, fun h => absurd h hhlt, fun h => absurd h hraises,
      fun _ _ => ⟨hstatus, hreturned⟩⟩

/-- Settles O9: this is `status_after_step`, the twelve bytes being those of the table. -/
theorem statusAfterEveryStep : Obligations.StatusAfterEveryStep := fun _ => status_after_step

/-! ### Terminal states -/

theorem step_of_halted {s : State} (h : s.status = .halted) : step s = .next s := by rw [step, h]

theorem step_of_faulted {s : State} {o : Byte} {p : Word16} (h : s.status = .faulted o p) : step s = .next s := by
  rw [step, h]

/-- Settles O8: a step from a terminal state answers the state, whose status it returns. -/
theorem terminalStatesAbsorb : Obligations.TerminalStatesAbsorb := by
  refine ⟨fun s h => ?_, fun s o p h => ?_, fun s t hstep hterminal => ?_⟩
  · refine ⟨step_of_halted h, ?_⟩
    rw [stepReturning_of_step (step_of_halted h), State.returned, h]
  · refine ⟨step_of_faulted h, ?_⟩
    rw [stepReturning_of_step (step_of_faulted h), State.returned, h]
  · obtain ⟨hrunning, -⟩ | ⟨-, rfl⟩ := step_cases hstep
    · exact absurd hrunning (not_running_iff.mpr hterminal)
    · exact hterminal

/-! ### The invariant -/

/-- Settles O11: a step from a terminal state changes nothing; one from Running raises, halts, or leaves Running, where
the invariant is the canonical form alone. -/
theorem everyStepKeepsTheInvariant : Obligations.EveryStepKeepsTheInvariant := by
  intro s t hinv hstep
  obtain ⟨hrunning, -⟩ | ⟨-, rfl⟩ := step_cases hstep
  swap
  · exact hinv
  by_cases hraises : raisesUnder s.cfg (s.readByte s.pc)
  · obtain rfl := Host.Outcome.next.inj ((step_of_raises hrunning hraises).symm.trans hstep)
    refine ⟨hinv.memory, fun o p hstatus => ?_, fun hstatus => nomatch hstatus⟩
    obtain ⟨rfl, rfl⟩ := RunStatus.faulted.inj hstatus
    exact ⟨rfl, rfl, hraises⟩
  by_cases hhlt : s.readByte s.pc = 0x76
  · obtain rfl := Host.Outcome.next.inj ((step_of_hlt hrunning hhlt).symm.trans hstep)
    refine ⟨hinv.memory, fun o p hstatus => (nomatch hstatus), fun _ => ?_⟩
    have hpc : s.pc + 1 - 1 = s.pc := add_sub_cancel_right s.pc 1
    exact (congrArg s.readByte hpc).trans hhlt
  · obtain ⟨u, hu, hframe, hstatus⟩ := step_of_other hrunning hhlt hraises
    obtain rfl := Host.Outcome.next.inj (hu.symm.trans hstep)
    refine ⟨hframe.canonical hinv.memory, fun o p h => ?_, fun h => ?_⟩
    · exact nomatch hstatus.symm.trans h
    · exact nomatch hstatus.symm.trans h

/-- Settles O12: memory is the empty list and the status Running. -/
theorem resetMeetsTheInvariant : Obligations.ResetMeetsTheInvariant where
  memory := State.reset_mem_wf
  faulted _ _ h := nomatch h
  halted h := nomatch h

/-! ### Runs -/

theorem Reaches.head {s t u : State} (first : Machine.step s = .next t) (rest : Reaches t u) : Reaches s u := by
  induction rest with
  | refl => exact .step (.refl s) first
  | step _ last ih => exact .step ih last

theorem terminal_of_run {n : Nat} {s t : State} (h : run n s = some t) :
    Reaches s t ∧ t.status.isTerminal = true := by
  induction n generalizing s with
  | zero =>
    rw [run] at h
    split at h
    · next hterminal =>
      obtain rfl := Option.some.inj h
      exact ⟨.refl s, hterminal⟩
    · exact nomatch h
  | succ n ih =>
    rw [run] at h
    split at h
    · next hterminal =>
      obtain rfl := Option.some.inj h
      exact ⟨.refl s, hterminal⟩
    · split at h
      · next u hstep =>
        obtain ⟨hreaches, hterminal⟩ := ih h
        exact ⟨hreaches.head hstep, hterminal⟩
      · exact nomatch h

/-- A run from the state after a step is a run from the state before it, with one step more. -/
theorem run_of_step {n : Nat} {s t u : State} (hstep : step s = .next t) (h : run n t = some u) :
    ∃ m, run m s = some u := by
  obtain ⟨hrunning, -⟩ | ⟨-, rfl⟩ := step_cases hstep
  · exact ⟨n + 1, (run_succ_of_running hrunning hstep n).trans h⟩
  · exact ⟨n, h⟩

/-- A run from the end of a chain of steps is a run from its beginning. -/
theorem run_of_reaches {s t u : State} (hreaches : Reaches s t) {n : Nat} (h : run n t = some u) :
    ∃ m, run m s = some u := by
  induction hreaches generalizing n with
  | refl => exact ⟨n, h⟩
  | step _ last ih =>
    obtain ⟨m, hm⟩ := run_of_step last h
    exact ih hm

/-- Settles O21: a bounded run follows steps to a terminal state; backwards, the run of no steps from the terminal
state is carried to the beginning of the chain. -/
theorem runFindsTheReachableTerminalState : Obligations.RunFindsTheReachableTerminalState :=
  fun _ _ => ⟨fun ⟨_, h⟩ => terminal_of_run h, fun ⟨hreaches, hterminal⟩ =>
    run_of_reaches hreaches (run_terminal hterminal 0)⟩

/-! ### Launch and reset -/

theorem imageFits_iff (loadBase : Word16) (image : List Byte) :
    imageFits loadBase image = true ↔ loadBase.toNat + image.length ≤ 65536 := decide_eq_true_iff

/-- Reading after the bytes `bs` are written from `a` upward: address `x` is `x - a` bytes into them, or past their
end (R453). -/
theorem Memory.read_writeBytes (m : Memory) (a x : Word16) {bs : List Byte} (h : bs.length ≤ 65536) :
    (m.writeBytes a bs).read x = bs[(x - a).toNat]?.getD (m.read x) := by
  induction bs generalizing m a with
  | nil => rfl
  | cons b bs ih =>
    rw [List.length_cons] at h
    rw [Memory.writeBytes, ih (m.write a b) (a + 1) (by omega)]
    by_cases hx : x = a
    · have hpast : bs.length ≤ (x - (a + 1)).toNat := by
        have : (x - (a + 1)).toNat = 65535 := by rw [hx]; bv_omega
        omega
      rw [List.getElem?_eq_none hpast, hx, sub_self]
      exact Memory.read_write_same m a b
    · have hnext : (x - a).toNat = (x - (a + 1)).toNat + 1 := by bv_omega
      rw [hnext, List.getElem?_cons_succ, Memory.read_write_other m b hx]

/-- INIT_MEM reads as its first entry for an address (log entry 14). -/
theorem Launch.read_memoryBefore (cells : List (Word16 × Byte)) (a : Word16) :
    (Launch.memoryBefore cells).read a = (cells.lookup a).getD Memory.unlisted := by
  induction cells with
  | nil => rfl
  | cons c cs ih =>
    obtain ⟨k, v⟩ := c
    have hcons : Launch.memoryBefore ((k, v) :: cs) = (Launch.memoryBefore cs).write k v := rfl
    rw [hcons, Memory.read_write, ih, List.lookup_cons]
    by_cases h : a = k
    · rw [if_pos h, beq_iff_eq.mpr h]
      rfl
    · rw [if_neg h, beq_false_of_ne h]

/-- Settles O14: an image byte stands its index above LOAD_BASE, and an address outside the image reads as INIT_MEM. -/
theorem launchPlacesTheImageOrRefusesIt : Obligations.LaunchPlacesTheImageOrRefusesIt := by
  refine fun L => ⟨fun hlong => ?_, fun hfits => ?_⟩
  · rw [launch, if_neg]
    rw [imageFits_iff]
    omega
  · have hlength : L.image.length ≤ 65536 := by omega
    have hbase := L.loadBase.isLt
    refine ⟨_, if_pos ((imageFits_iff _ _).mpr hfits), rfl, rfl, rfl, rfl, rfl, rfl, rfl,
      Memory.wf_writeBytes (Launch.memoryBefore_wf L.initMem) _ _, fun k hk => ?_, fun a hout => ?_⟩
    · have hoffset : (L.loadBase + BitVec.ofNat 16 k - L.loadBase).toNat = k := by bv_omega
      refine (Memory.read_writeBytes _ _ _ hlength).trans ?_
      rw [hoffset, List.getElem?_eq_getElem hk]
      rfl
    · have hpast : L.image.length ≤ (a - L.loadBase).toNat := by bv_omega
      refine (Memory.read_writeBytes _ _ _ hlength).trans ?_
      rw [List.getElem?_eq_none hpast]
      exact Launch.read_memoryBefore L.initMem a

/-- Settles O13: field by field, and the launch of an empty image writes no byte. -/
theorem resetState : Obligations.ResetState := by
  refine ⟨rfl, rfl, rfl, fun r => ?_, rfl, rfl, rfl, fun _ => rfl, rfl⟩
  cases r <;> rfl

end Sys2Proof.Machine
end

section
/-! PROOFS. Addition with carry, subtraction, DCR and DAA (43_arithmetic.md rules R242 to R247, R249 to R251, R254, R255
and R260 to R262). -/

namespace Sys2Proof.Machine

open Sys2Proof.Claims

/-- Settles O35: both forms complete `addToA` with CY as the carry-in. -/
theorem addWithCarryResultAndFlags : Obligations.AddWithCarryResultAndFlags :=
  ⟨fun o s => (exec_adc o s).trans (complete_addToA 1 s (s.operand8 o) s.flags.cy),
    fun d8 s => complete_addToA 2 s d8 s.flags.cy⟩

/-! ### Subtraction -/

theorem diff8_eq_ofNat (a v : Byte) (c : Bool) :
    diff8 a v c = BitVec.ofNat 8 (512 + a.toNat - v.toNat - c.toNat) := by
  apply BitVec.eq_of_toNat_eq
  rw [diff8_toNat, BitVec.toNat_ofNat]

/-- The result and the flags of class subtract as numbers (R176, R181); `c` is the borrow-in. -/
theorem complete_subFromA (len : Nat) (s : State) (v : Byte) (c : Bool) :
    complete len (s.subFromA v c) = .next (afterSub s v c len) := by
  rw [complete_eq_next, State.subFromA, Flags.afterSub_diff8, diff8_eq_ofNat]
  rfl

/-- Settles O36: both forms complete `subFromA` without a borrow-in. -/
theorem subtractResultAndFlags : Obligations.SubtractResultAndFlags :=
  ⟨fun o s => (exec_sub o s).trans (complete_subFromA 1 s (s.operand8 o) false),
    fun d8 s => complete_subFromA 2 s d8 false⟩

/-- Settles O37: both forms complete `subFromA` with CY as the borrow-in. -/
theorem subtractWithBorrowResultAndFlags : Obligations.SubtractWithBorrowResultAndFlags :=
  ⟨fun o s => (exec_sbb o s).trans (complete_subFromA 1 s (s.operand8 o) s.flags.cy),
    fun d8 s => complete_subFromA 2 s d8 s.flags.cy⟩

/-! ### DCR -/

/-- Taking 1 from a byte adds 255, which is -1 mod 2^8. -/
theorem sub_one_eq_ofNat (v : Byte) : v - 1 = BitVec.ofNat 8 (v.toNat + 255) := by
  rw [ofNat_toNat_add]
  exact sub_eq_add_neg v 1

/-- The result flags of a byte written as a number are those of the number (R174). -/
theorem Flags.setZSP_ofNat (f : Flags) (n : Nat) :
    f.setZSP (BitVec.ofNat 8 n) = { f with z := zero n, s := sign n, p := parity n } := by
  rw [Flags.setZSP, BitVec.toNat_ofNat, zero_mod_256, sign_mod_256, parity_mod_256]

/-- DCR's flags are those of the old value plus 255 as a number; CY stays (R180). -/
theorem Flags.afterDecrement_sub_one (f : Flags) (v : Byte) : f.afterDecrement (v - 1) = decFlags f v := by
  rw [Flags.afterDecrement, sub_one_eq_ofNat, Flags.setZSP_ofNat]
  rfl

/-- DCR of a register or of M: the operand's new value and the flags of its old one (R254, R255). -/
theorem exec_dcr_eq (o : Operand8) (s : State) :
    exec (.dcr o) s = complete 1
      { s.setOperand8 o (BitVec.ofNat 8 ((s.operand8 o).toNat + 255)) with
        flags := decFlags s.flags (s.operand8 o) } := by
  rw [exec_dcr, decrementOperand, Flags.afterDecrement_sub_one, sub_one_eq_ofNat]

/-- Settles O39: DCR stores the decremented value in its register, or in the byte at HL. -/
theorem decrementResultAndFlags : Obligations.DecrementResultAndFlags :=
  ⟨fun r s => ⟨_, exec_dcr_eq (.reg r) s, RegFile.get_set_same s.regs r _, fun _ => RegFile.get_set_other s.regs _⟩,
    fun s => ⟨_, exec_dcr_eq .m s, Memory.read_write_same s.mem s.regs.hl _,
      fun _ => Memory.read_write_other s.mem _⟩⟩

/-! ### DAA -/

/-- DAA corrects the low digit (R260). -/
def correctsLow (a : Byte) (f : Flags) : Bool := decide (a.toNat % 16 > 9) || f.ac

/-- DAA corrects the high digit (R260). -/
def correctsHigh (a : Byte) (f : Flags) : Bool := decide (a.toNat > 0x99) || f.cy

/-- The two corrections have no bit in common, so the correction byte is their sum. -/
theorem daaCorrection_toNat (a : Byte) (f : Flags) : (daaCorrection a f).toNat =
    (if correctsLow a f then 0x06 else 0) + (if correctsHigh a f then 0x60 else 0) := by
  have hlow : (a.toNat % 16 > 9 ∨ f.ac = true) ↔ correctsLow a f = true := by simp [correctsLow]
  have hhigh : (a.toNat > 0x99 ∨ f.cy = true) ↔ correctsHigh a f = true := by simp [correctsHigh]
  simp only [daaCorrection, hlow, hhigh]
  cases correctsLow a f <;> cases correctsHigh a f <;> rfl

/-- The adjusted byte and its flags as numbers (R260). -/
theorem complete_decimalAdjust (s : State) : complete 1 s.decimalAdjust = .next (afterDaa s) := by
  have hsum : s.regs.a + daaCorrection s.regs.a s.flags =
      BitVec.ofNat 8 (s.regs.a.toNat + (daaCorrection s.regs.a s.flags).toNat) := by
    rw [ofNat_toNat_add, BitVec.ofNat_toNat, BitVec.setWidth_eq]
  simp only [complete_eq_next, State.decimalAdjust, hsum, Flags.setZSP_ofNat, acAdd, daaCorrection_toNat,
    Bool.or_comm s.flags.cy]
  rfl

theorem afterDaa_a_toNat (s : State) : (afterDaa s).regs.a.toNat =
    (s.regs.a.toNat + ((if correctsLow s.regs.a s.flags then 0x06 else 0) +
      (if correctsHigh s.regs.a s.flags then 0x60 else 0))) % 256 := BitVec.toNat_ofNat _ _

theorem exec_daa_eq {s : State} (h : s.cfg.daaMode = .reference) : exec .daa s = .next (afterDaa s) :=
  (exec_daa_of_reference h).trans (complete_decimalAdjust s)

/-- Settles O42: the two modes of DAA. -/
theorem daaAdjustsOrRaises : Obligations.DaaAdjustsOrRaises := fun _ => ⟨exec_daa_eq, exec_daa_of_fault⟩

/-- DAA corrects the low digit of a sum exactly when the low digits' sum is 10 or more. -/
theorem correctsLow_afterAdd (s : State) (v : Byte) (c : Bool) (len : Nat) :
    correctsLow (afterAdd s v c len).regs.a (afterAdd s v c len).flags =
      decide (s.regs.a.toNat % 16 + v.toNat % 16 + c.toNat ≥ 10) := by
  simp only [correctsLow, afterAdd, BitVec.toNat_ofNat, ← Bool.decide_or, decide_eq_decide]
  omega

/-- On packed BCD it corrects the high digit exactly when the decimal sum is 100 or more. -/
theorem correctsHigh_afterAdd {s : State} {v : Byte} (ha : IsBcd s.regs.a) (hv : IsBcd v) (c : Bool) (len : Nat) :
    correctsHigh (afterAdd s v c len).regs.a (afterAdd s v c len).flags =
      decide (decimal s.regs.a + decimal v + c.toNat ≥ 100) := by
  obtain ⟨halow, hahigh⟩ := ha
  obtain ⟨hvlow, hvhigh⟩ := hv
  have hc := c.toNat_le
  simp only [correctsHigh, afterAdd, BitVec.toNat_ofNat, ← Bool.decide_or, decide_eq_decide]
  simp only [decimal]
  omega

/-- Digits added in base 16 and corrected are the digits of the decimal sum: each correction turns a carry at ten into
one at sixteen. `high` and `low` are the sums of the high digits and of the low digits with the carry-in. -/
theorem corrected_digits {high low : Nat} (hhigh : high ≤ 18) (hlow : low ≤ 19) :
    ((16 * high + low) % 256 +
        ((if low ≥ 10 then 0x06 else 0) + (if 10 * high + low ≥ 100 then 0x60 else 0))) % 256 =
      16 * ((10 * high + low) / 10 % 10) + (10 * high + low) % 10 := by
  have hdiv : (10 * high + low) / 10 = high + low / 10 := by omega
  have hmod : (10 * high + low) % 10 = low % 10 := by omega
  rw [hdiv, hmod]
  split <;> split <;> omega

/-- A + v + c and then DAA, on packed BCD (R261): the byte holds the last two digits of the decimal sum. -/
theorem afterDaa_afterAdd_a_toNat {s : State} {v : Byte} (ha : IsBcd s.regs.a) (hv : IsBcd v) (c : Bool) (len : Nat) :
    (afterDaa (afterAdd s v c len)).regs.a.toNat =
      16 * ((decimal s.regs.a + decimal v + c.toNat) / 10 % 10) + (decimal s.regs.a + decimal v + c.toNat) % 10 := by
  have hsum : (afterAdd s v c len).regs.a.toNat = (s.regs.a.toNat + v.toNat + c.toNat) % 256 :=
    BitVec.toNat_ofNat _ _
  simp only [afterDaa_a_toNat, hsum, correctsLow_afterAdd, correctsHigh_afterAdd ha hv, decide_eq_true_iff]
  obtain ⟨halow, hahigh⟩ := ha
  obtain ⟨hvlow, hvhigh⟩ := hv
  have hc := c.toNat_le
  have hhex : s.regs.a.toNat + v.toNat + c.toNat = 16 * (s.regs.a.toNat / 16 + v.toNat / 16) +
      (s.regs.a.toNat % 16 + v.toNat % 16 + c.toNat) := by omega
  have hdec : decimal s.regs.a + decimal v + c.toNat = 10 * (s.regs.a.toNat / 16 + v.toNat / 16) +
      (s.regs.a.toNat % 16 + v.toNat % 16 + c.toNat) := by
    simp only [decimal]
    omega
  rw [hhex, hdec]
  exact corrected_digits (by omega) (by omega)

/-- A byte with two decimal digits is BCD and stands for their number. -/
theorem bcd_of_toNat_eq {x : Byte} {n : Nat} (h : x.toNat = 16 * (n / 10 % 10) + n % 10) :
    IsBcd x ∧ decimal x = n % 100 := by
  refine ⟨⟨by omega, by omega⟩, ?_⟩
  rw [decimal]
  omega

/-- R261 for either sum: the digits, and CY, which DAA sets when it corrects the high digit. -/
theorem afterDaa_afterAdd_bcd {s : State} {v : Byte} (ha : IsBcd s.regs.a) (hv : IsBcd v) (c : Bool) (len : Nat) :
    IsBcd (afterDaa (afterAdd s v c len)).regs.a ∧
    decimal (afterDaa (afterAdd s v c len)).regs.a = (decimal s.regs.a + decimal v + c.toNat) % 100 ∧
    (afterDaa (afterAdd s v c len)).flags.cy = decide (decimal s.regs.a + decimal v + c.toNat ≥ 100) := by
  obtain ⟨hbcd, hdecimal⟩ := bcd_of_toNat_eq (afterDaa_afterAdd_a_toNat ha hv c len)
  exact ⟨hbcd, hdecimal, correctsHigh_afterAdd ha hv c len⟩

/-- Settles O43: both sums leave the parameters, so DAA adjusts the byte they leave. -/
theorem daaGivesTheDecimalSum : Obligations.DaaGivesTheDecimalSum := by
  intro o s hmode ha hv
  refine ⟨⟨afterAdd s (s.operand8 o) false 1, _, ?_, exec_daa_eq hmode, ?_⟩,
    afterAdd s (s.operand8 o) s.flags.cy 1, _, ?_, exec_daa_eq hmode, ?_⟩
  · exact (exec_add o s).trans (complete_addToA 1 s (s.operand8 o) false)
  · exact afterDaa_afterAdd_bcd ha hv false 1
  · exact (exec_adc o s).trans (complete_addToA 1 s (s.operand8 o) s.flags.cy)
  · exact afterDaa_afterAdd_bcd ha hv s.flags.cy 1

end Sys2Proof.Machine
end

section
/-! PROOFS. LHLD, SHLD, LXI, JMP and CALL, and a store seen by the next fetch (42_data_movement.md rules R205, R210 and
R211, 45_branch.md rule R310, 46_subroutine.md rule R330, 20_memory.md rule R86). -/

namespace Sys2Proof.Machine

/-- LHLD in full (R210): the byte at a16 goes to L and the byte above it to H. -/
theorem exec_lhld (a16 : Word16) (s : State) :
    exec (.lhld a16) s =
      .next { s with regs := { s.regs with l := s.readByte a16, h := s.readByte (a16 + 1) }, pc := s.pc + 3 } := by
  have hexec : exec (.lhld a16) s = complete 3 (s.setPair .hl (s.readWord a16)) := rfl
  rw [hexec, complete_eq_next, State.setPair, State.readWord, highByte_pairOf, lowByte_pairOf]
  rfl

/-- Settles O31: SHLD stores HL, which is `{H, L}`. -/
theorem lhldAndShldMoveHl : Obligations.LhldAndShldMoveHl :=
  ⟨exec_lhld, fun a16 s => ⟨_, rfl, State.readByte_writeWord_pairOf s a16 s.regs.h s.regs.l⟩⟩

/-- Settles O30: LXI completes one pair write. -/
theorem lxiWritesOnePair : Obligations.LxiWritesOnePair := by
  refine fun p d16 s => ⟨encode_lxi p d16, ?_⟩
  rw [exec_lxi]
  exact complete_setPair 3 s p d16

/-- Settles O47: JMP jumps by its definition; CALL pushes the address after its three bytes. -/
theorem jmpAndCallGoToTheirOperand : Obligations.JmpAndCallGoToTheirOperand :=
  ⟨fun _ _ => ⟨rfl, rfl⟩, fun a16 s => ⟨rfl, callTo_stores_return_address 3 a16 s⟩⟩

/-- Settles O22: each store goes to the address pc then holds. -/
theorem storeIsSeenByTheNextFetch : Obligations.StoreIsSeenByTheNextFetch := by
  refine ⟨fun s => ⟨_, rfl, Memory.read_write_same s.mem (s.pc + 3) s.regs.a⟩, fun s r hhl => ?_⟩
  refine ⟨(s.writeByte s.regs.hl (s.reg r)).advance 1, exec_movMR r s, ?_⟩
  rw [hhl]
  exact Memory.read_write_same s.mem (s.pc + 1) (s.reg r)

end Sys2Proof.Machine
end

section
/-! PROOFS. The packed flag byte, PSW on the stack, and the laws of the stack and of linkage (10_state.md rule R40,
46_subroutine.md rule R335, 47_stack.md rules R362, R363 and R365). -/

namespace Sys2Proof.Machine

open Sys2Proof.Claims

/-! ### The packed flag byte -/

/-- Five bits make a number below 32. -/
theorem Flags.bits_lt (f : Flags) :
    f.z.toNat + 2 * f.s.toNat + 4 * f.p.toNat + 8 * f.cy.toNat + 16 * f.ac.toNat < 32 := by
  have hz := f.z.toNat_le
  have hs := f.s.toNat_le
  have hp := f.p.toNat_le
  have hcy := f.cy.toNat_le
  have hac := f.ac.toNat_le
  omega

theorem Flags.pack_toNat (f : Flags) : f.pack.toNat =
    f.z.toNat + 2 * f.s.toNat + 4 * f.p.toNat + 8 * f.cy.toNat + 16 * f.ac.toNat := by
  have hbits := f.bits_lt
  rw [Flags.pack, BitVec.toNat_ofNat]
  omega

theorem Flags.pack_lt (f : Flags) : f.pack.toNat < 32 := f.pack_toNat ▸ f.bits_lt

/-- Unpacking gives the flags back; there are 32 of them. -/
theorem Flags.unpack_pack (f : Flags) : Flags.unpack f.pack = f := by
  obtain ⟨z, s, p, cy, ac⟩ := f
  revert z s p cy ac
  decide

theorem getLsbD_toNat (b : Byte) (i : Nat) : (b.getLsbD i).toNat = b.toNat / 2 ^ i % 2 := by
  rw [← BitVec.testBit_toNat, Nat.toNat_testBit]

/-- Packing what was unpacked drops the bits 7:5 (decision D7). -/
theorem Flags.pack_unpack (b : Byte) : (Flags.unpack b).pack = b &&& 0x1F := by
  have hmask : (b &&& 0x1F).toNat = b.toNat % 2 ^ 5 :=
    (BitVec.toNat_and b 0x1F).trans (Nat.and_two_pow_sub_one_eq_mod b.toNat 5)
  apply BitVec.eq_of_toNat_eq
  simp only [hmask, Flags.pack_toNat, Flags.unpack, getLsbD_toNat]
  omega

/-- Settles O25: each bit of the packed byte is a field of the flags it unpacks to. -/
theorem packedFlagByteLayout : Obligations.PackedFlagByteLayout := by
  refine ⟨fun f => ?_, Flags.pack_unpack⟩
  have hunpack := f.unpack_pack
  exact ⟨congrArg Flags.z hunpack, congrArg Flags.s hunpack, congrArg Flags.p hunpack, congrArg Flags.cy hunpack,
    congrArg Flags.ac hunpack, f.pack_lt, hunpack⟩

/-! ### PUSH PSW and POP PSW -/

/-- What PUSH PSW pushes, as a number: A above the packed flags. -/
theorem pairOf_a_pack (a : Byte) (f : Flags) : pairOf a f.pack = BitVec.ofNat 16 (a.toNat * 256 + f.z.toNat +
    2 * f.s.toNat + 4 * f.p.toNat + 8 * f.cy.toNat + 16 * f.ac.toNat) := by
  have ha := a.isLt
  have hpack := f.pack_lt
  have hnat := f.pack_toNat
  apply BitVec.eq_of_toNat_eq
  rw [pairOf_toNat, BitVec.toNat_ofNat]
  omega

/-- POP PSW in full (R363): flags from the byte at SP, A from the byte above it. -/
theorem exec_popPSW (s : State) : exec .popPSW s = .next { s with
    regs := { s.regs with a := s.readByte (s.sp + 1) }
    flags := Flags.unpack (s.readByte s.sp)
    sp := s.sp + 2
    pc := s.pc + 1 } := by
  have hexec : exec .popPSW s = complete 1 { s.dropTop with
    regs := { s.regs with a := highByte s.topOfStack }
    flags := Flags.unpack (lowByte s.topOfStack) } := rfl
  rw [hexec, complete_eq_next, State.topOfStack, State.readWord, highByte_pairOf, lowByte_pairOf]
  rfl

/-- Settles O52: PUSH PSW completes one push; POP PSW is `exec_popPSW`. -/
theorem pswMovesAAndFlags : Obligations.PswMovesAAndFlags := by
  refine ⟨fun s => ?_, exec_popPSW⟩
  rw [← pairOf_a_pack]
  exact complete_push16 1 s (pairOf s.regs.a s.flags.pack)

/-! ### The laws of the stack -/

/-- Raising SP by 2 undoes lowering it by 2, for every SP. -/
theorem sub_two_add_two (w : Word16) : w - 2 + 2 = w := sub_add_cancel w 2

/-- Writing to BC, DE or HL what it holds leaves the registers. -/
theorem State.setPair_toPair_pair_regs {s t : State} (h : t.regs = s.regs) (p : StackPair) :
    (t.setPair p.toPair (s.pair p.toPair)).regs = s.regs := by
  cases p with
  | bc | de | hl =>
    simp only [StackPair.toPair, State.setPair, State.pair, RegFile.bc, RegFile.de, RegFile.hl, highByte_pairOf,
      lowByte_pairOf, h]

/-- PUSH p and then POP q, in full: the value of p goes to q, and SP is where it was (R365). -/
theorem exec_pop_push (p q : StackPair) (s : State) : ∃ t, exec (.push p) s = .next t ∧
    exec (.pop q) t = complete 1 (t.dropTop.setPair q.toPair (s.pair p.toPair)) ∧
    t.regs = s.regs ∧ t.flags = s.flags ∧ t.dropTop.sp = s.sp := by
  refine ⟨(s.push16 (s.pair p.toPair)).advance 1, exec_push p s, ?_, rfl, rfl, sub_two_add_two s.sp⟩
  have htop : ((s.push16 (s.pair p.toPair)).advance 1).topOfStack = s.pair p.toPair :=
    State.topOfStack_push16 s (s.pair p.toPair)
  rw [exec_pop, popPair, htop]

/-- PUSH PSW leaves A and the packed flags at the new SP, and POP PSW reads them there, whatever A and the flags have
become (R365). -/
theorem exec_popPSW_pushPSW (s : State) : ∃ t, exec .pushPSW s = .next t ∧
    ∀ (a : Byte) (f : Flags), ∃ u,
      exec .popPSW { t with regs := { t.regs with a := a }, flags := f } = .next u ∧
      u.regs = s.regs ∧ u.flags = s.flags ∧ u.sp = s.sp := by
  obtain ⟨hlow, hhigh, -⟩ :=
    State.readByte_writeWord_pairOf { s with sp := s.sp - 2 } (s.sp - 2) s.regs.a s.flags.pack
  refine ⟨(s.push16 (pairOf s.regs.a s.flags.pack)).advance 1, rfl, fun a f => ⟨_, exec_popPSW _, ?_, ?_, ?_⟩⟩
  · exact congrArg (fun b => { s.regs with a := b }) hhigh
  · exact (congrArg Flags.unpack hlow).trans s.flags.unpack_pack
  · exact sub_two_add_two s.sp

/-- Settles O53: by the two laws above. -/
theorem stackRoundTrips : Obligations.StackRoundTrips := by
  refine ⟨fun p q s => ?_, exec_popPSW_pushPSW⟩
  obtain ⟨t, hpush, hpop, hregs, hflags, hsp⟩ := exec_pop_push p q s
  refine ⟨t, _, hpush, hpop, ?_, ?_, ?_, ?_⟩
  · exact State.pair_setPair_same t.dropTop q.toPair (s.pair p.toPair)
  · exact (State.setPair_sp_of_ne _ _ (StackPair.toPair_ne_sp q)).trans hsp
  · exact (State.setPair_flags _ _ _).trans hflags
  · rintro rfl
    exact State.setPair_toPair_pair_regs (t := t.dropTop) hregs _

/-! ### The laws of linkage -/

/-- A call leaves the address after it on top of the stack, for any state with the same SP and the same two bytes there
to return to, and the return puts SP back (R335). -/
theorem ret_after_callTo (len : Nat) (target : Word16) (s : State) : ∃ t, callTo len target s = .next t ∧
    ∀ t' : State, t'.sp = t.sp → t'.readByte t.sp = t.readByte t.sp →
      t'.readByte (t.sp + 1) = t.readByte (t.sp + 1) →
      ∃ u, exec .ret t' = .next u ∧ u.pc = s.pc + BitVec.ofNat 16 len ∧ u.sp = s.sp := by
  refine ⟨{ s.push16 (s.pc + BitVec.ofNat 16 len) with pc := target }, rfl, fun t' hsp hlow hhigh => ?_⟩
  refine ⟨{ t'.dropTop with pc := t'.topOfStack }, rfl, ?_, ?_⟩
  · have htop : t'.topOfStack = (s.push16 (s.pc + BitVec.ofNat 16 len)).topOfStack := by
      rw [State.topOfStack, State.readWord, hsp, hlow, hhigh]
      rfl
    exact htop.trans (State.topOfStack_push16 s _)
  · rw [State.dropTop_sp, hsp]
    exact sub_two_add_two s.sp

/-- Settles O54: CALL is a call of three bytes and RST n one of one byte. -/
theorem callThenReturn : Obligations.CallThenReturn := by
  refine ⟨fun a16 s => ret_after_callTo 3 a16 s, fun n s => ?_⟩
  rw [exec_rst]
  exact ret_after_callTo 1 (restartVector n) s

end Sys2Proof.Machine
end

section
/-! PROOFS. HLT, EI, DI, the ports and the reserved bytes (48_control.md rules R380, R384, R385, R394, R395 and
R397). -/

namespace Sys2Proof.Machine

/-- Settles O55: HLT completes by its definition, as the step uses it. -/
theorem hltHalts : Obligations.HltHalts := exec_hlt

/-- Settles O56: both complete a write of INTE by their definitions. -/
theorem eiAndDiWriteInte : Obligations.EiAndDiWriteInte := fun _ => ⟨rfl, rfl⟩

/-- Settles O59: both complete without a write, by their definitions. -/
theorem portsOnlyAdvance : Obligations.PortsOnlyAdvance := fun _ _ => ⟨rfl, rfl⟩

/-- Settles O60: a reserved constructor runs as its byte, which raises or passes by the policy. -/
theorem reservedBytesRaiseOrPass : Obligations.ReservedBytesRaiseOrPass := by
  intro e he s
  rw [exec_reserved he]
  exact ⟨fun hfault => executeReserved_of_fault hfault e.1, fun hpass => executeReserved_of_noOp1 hpass e.1⟩

end Sys2Proof.Machine
end
